-- ==== Sys2Proof/Word.lean ====
section
/-! DEFINITION. The word types of the core (00_scope.md R10, R12). XLEN = FLEN = 32. Nothing but names of types stands
here; bit fields, sign extension and byte order stand in Decode.lean and Machine/. -/

namespace Sys2Proof

/-- A `bits(32)`: an integer or float register's content, the pc, an address, an instruction word (R10). -/
abbrev Word := BitVec 32

/-- One byte of memory, `bits(8)` (20_memory.md R60). -/
abbrev Byte := BitVec 8

/-- A 5-bit register field: a register of the x file or of the f file, as the instruction's rule says
(30_encoding.md R98, R106). -/
abbrev RegIdx := BitVec 5

end Sys2Proof
end

