-- ==== Sys2Proof/Machine/Flags.lean ====
section
/-! DEFINITION. The core has no flags and no condition codes (10_state.md R36): "Comparisons write 0 or 1 to a register,
and branches compare registers directly". What stands here are those comparisons (00_scope.md R13). -/

namespace Sys2Proof.Machine

/-- `a <s b`: as signed. -/
def ltS (a b : Word) : Bool := decide (a.toInt < b.toInt)

/-- `a <u b`: as unsigned. -/
def ltU (a b : Word) : Bool := decide (a.toNat < b.toNat)

/-- `c ? 1 : 0`. -/
def boolWord (c : Bool) : Word := if c then 1 else 0

end Sys2Proof.Machine
end

