-- ==== Sys2Proof/Syntax.lean ====
section
/-! DEFINITION. The 90 instructions of 00_scope.md R2, one constructor per row of opcode_table.json, in the table's order.
Each constructor carries every field of its format that the row does not fix, the ones the core does not examine
among them (30_encoding.md R98, R140), so that an instruction spells exactly one word (R108). Immediates are the
sign-extended 32-bit values of R98. -/

namespace Sys2Proof

/-- An instruction, as decoded. -/
inductive Instr where
  /-- lui: load upper immediate (40_base_alu.md R180). -/
  | lui (rd : RegIdx) (imm : Word)
  /-- auipc: add upper immediate to pc (40_base_alu.md R181). -/
  | auipc (rd : RegIdx) (imm : Word)
  /-- jal: jump and link (41_control_flow.md R207). -/
  | jal (rd : RegIdx) (imm : Word)
  /-- jalr: jump and link register; funct3 is not examined (R121) (41_control_flow.md R208). -/
  | jalr (rd : RegIdx) (funct3 : BitVec 3) (rs1 : RegIdx) (imm : Word)
  /-- beq: branch if equal (41_control_flow.md R201). -/
  | beq (rs1 rs2 : RegIdx) (imm : Word)
  /-- bne: branch if not equal (41_control_flow.md R202). -/
  | bne (rs1 rs2 : RegIdx) (imm : Word)
  /-- blt: branch if less than, signed (41_control_flow.md R203). -/
  | blt (rs1 rs2 : RegIdx) (imm : Word)
  /-- bge: branch if greater than or equal, signed (41_control_flow.md R204). -/
  | bge (rs1 rs2 : RegIdx) (imm : Word)
  /-- bltu: branch if less than, unsigned (41_control_flow.md R205). -/
  | bltu (rs1 rs2 : RegIdx) (imm : Word)
  /-- bgeu: branch if greater than or equal, unsigned (41_control_flow.md R206). -/
  | bgeu (rs1 rs2 : RegIdx) (imm : Word)
  /-- lb: load byte, sign-extended (42_load_store.md R221). -/
  | lb (rd rs1 : RegIdx) (imm : Word)
  /-- lh: load halfword, sign-extended (42_load_store.md R222). -/
  | lh (rd rs1 : RegIdx) (imm : Word)
  /-- lw: load word (42_load_store.md R223). -/
  | lw (rd rs1 : RegIdx) (imm : Word)
  /-- lbu: load byte, zero-extended (42_load_store.md R224). -/
  | lbu (rd rs1 : RegIdx) (imm : Word)
  /-- lhu: load halfword, zero-extended (42_load_store.md R225). -/
  | lhu (rd rs1 : RegIdx) (imm : Word)
  /-- sb: store byte (42_load_store.md R226). -/
  | sb (rs1 rs2 : RegIdx) (imm : Word)
  /-- sh: store halfword (42_load_store.md R227). -/
  | sh (rs1 rs2 : RegIdx) (imm : Word)
  /-- sw: store word (42_load_store.md R228). -/
  | sw (rs1 rs2 : RegIdx) (imm : Word)
  /-- addi: add immediate (40_base_alu.md R171). -/
  | addi (rd rs1 : RegIdx) (imm : Word)
  /-- slti: set if less than immediate, signed (40_base_alu.md R172). -/
  | slti (rd rs1 : RegIdx) (imm : Word)
  /-- sltiu: set if less than immediate, unsigned (40_base_alu.md R173). -/
  | sltiu (rd rs1 : RegIdx) (imm : Word)
  /-- xori: exclusive or immediate (40_base_alu.md R174). -/
  | xori (rd rs1 : RegIdx) (imm : Word)
  /-- ori: or immediate (40_base_alu.md R175). -/
  | ori (rd rs1 : RegIdx) (imm : Word)
  /-- andi: and immediate (40_base_alu.md R176). -/
  | andi (rd rs1 : RegIdx) (imm : Word)
  /-- slli: shift left logical immediate (40_base_alu.md R177). -/
  | slli (rd rs1 : RegIdx) (shamt : BitVec 5)
  /-- srli: shift right logical immediate (40_base_alu.md R178). -/
  | srli (rd rs1 : RegIdx) (shamt : BitVec 5)
  /-- srai: shift right arithmetic immediate (40_base_alu.md R179). -/
  | srai (rd rs1 : RegIdx) (shamt : BitVec 5)
  /-- add: add (40_base_alu.md R161). -/
  | add (rd rs1 rs2 : RegIdx)
  /-- sub: subtract (40_base_alu.md R162). -/
  | sub (rd rs1 rs2 : RegIdx)
  /-- sll: shift left logical (40_base_alu.md R163). -/
  | sll (rd rs1 rs2 : RegIdx)
  /-- slt: set if less than, signed (40_base_alu.md R164). -/
  | slt (rd rs1 rs2 : RegIdx)
  /-- sltu: set if less than, unsigned (40_base_alu.md R165). -/
  | sltu (rd rs1 rs2 : RegIdx)
  /-- xor: bitwise exclusive or (40_base_alu.md R166). -/
  | xor (rd rs1 rs2 : RegIdx)
  /-- srl: shift right logical (40_base_alu.md R167). -/
  | srl (rd rs1 rs2 : RegIdx)
  /-- sra: shift right arithmetic (40_base_alu.md R168). -/
  | sra (rd rs1 rs2 : RegIdx)
  /-- or: bitwise or (40_base_alu.md R169). -/
  | or (rd rs1 rs2 : RegIdx)
  /-- and: bitwise and (40_base_alu.md R170). -/
  | and (rd rs1 rs2 : RegIdx)
  /-- fence: memory ordering fence; no field is examined (R121) (43_system.md R240). -/
  | fence (rd : RegIdx) (funct3 : BitVec 3) (rs1 : RegIdx) (imm : Word)
  /-- ecall: environment call; funct3, rs1 and rd are not examined (R122) (43_system.md R241). -/
  | ecall (rd : RegIdx) (funct3 : BitVec 3) (rs1 : RegIdx)
  /-- ebreak: breakpoint; funct3, rs1 and rd are not examined (R122) (43_system.md R248). -/
  | ebreak (rd : RegIdx) (funct3 : BitVec 3) (rs1 : RegIdx)
  /-- mul: multiply, low word (44_multiply_divide.md R261). -/
  | mul (rd rs1 rs2 : RegIdx)
  /-- mulh: multiply, high word, signed × signed (44_multiply_divide.md R262). -/
  | mulh (rd rs1 rs2 : RegIdx)
  /-- mulhsu: multiply, high word, signed × unsigned (44_multiply_divide.md R263). -/
  | mulhsu (rd rs1 rs2 : RegIdx)
  /-- mulhu: multiply, high word, unsigned × unsigned (44_multiply_divide.md R264). -/
  | mulhu (rd rs1 rs2 : RegIdx)
  /-- div: signed divide (44_multiply_divide.md R265). -/
  | div (rd rs1 rs2 : RegIdx)
  /-- divu: unsigned divide (44_multiply_divide.md R266). -/
  | divu (rd rs1 rs2 : RegIdx)
  /-- rem: signed remainder (44_multiply_divide.md R267). -/
  | rem (rd rs1 rs2 : RegIdx)
  /-- remu: unsigned remainder (44_multiply_divide.md R268). -/
  | remu (rd rs1 rs2 : RegIdx)
  /-- fadd.s: float add (45_float.md R284). -/
  | faddS (rd rs1 rs2 : RegIdx) (rm : BitVec 3)
  /-- fsub.s: float subtract (45_float.md R285). -/
  | fsubS (rd rs1 rs2 : RegIdx) (rm : BitVec 3)
  /-- fmul.s: float multiply (45_float.md R286). -/
  | fmulS (rd rs1 rs2 : RegIdx) (rm : BitVec 3)
  /-- fdiv.s: float divide (45_float.md R287). -/
  | fdivS (rd rs1 rs2 : RegIdx) (rm : BitVec 3)
  /-- fsqrt.s: float square root; rs2 is not examined (45_float.md R288). -/
  | fsqrtS (rd rs1 rs2 : RegIdx) (rm : BitVec 3)
  /-- fmadd.s: fused multiply-add; fmt is not examined (R124) (45_float.md R289). -/
  | fmaddS (rd rs1 rs2 rs3 : RegIdx) (rm : BitVec 3) (fmt : BitVec 2)
  /-- fmsub.s: fused multiply-subtract; fmt is not examined (R124) (45_float.md R290). -/
  | fmsubS (rd rs1 rs2 rs3 : RegIdx) (rm : BitVec 3) (fmt : BitVec 2)
  /-- fnmsub.s: negated fused multiply-subtract; fmt is not examined (R124) (45_float.md R291). -/
  | fnmsubS (rd rs1 rs2 rs3 : RegIdx) (rm : BitVec 3) (fmt : BitVec 2)
  /-- fnmadd.s: negated fused multiply-add; fmt is not examined (R124) (45_float.md R292). -/
  | fnmaddS (rd rs1 rs2 rs3 : RegIdx) (rm : BitVec 3) (fmt : BitVec 2)
  /-- fsgnj.s: sign inject (45_float.md R293). -/
  | fsgnjS (rd rs1 rs2 : RegIdx)
  /-- fsgnjn.s: sign inject, negated (45_float.md R294). -/
  | fsgnjnS (rd rs1 rs2 : RegIdx)
  /-- fsgnjx.s: sign inject, XOR (45_float.md R295). -/
  | fsgnjxS (rd rs1 rs2 : RegIdx)
  /-- fmin.s: float minimum (45_float.md R296). -/
  | fminS (rd rs1 rs2 : RegIdx)
  /-- fmax.s: float maximum (45_float.md R297). -/
  | fmaxS (rd rs1 rs2 : RegIdx)
  /-- fcvt.w.s: float to signed word; rm is ignored (C5) (45_float.md R298). -/
  | fcvtWS (rd rs1 : RegIdx) (rm : BitVec 3)
  /-- fcvt.wu.s: float to unsigned word; rm is ignored (C5) (45_float.md R299). -/
  | fcvtWUS (rd rs1 : RegIdx) (rm : BitVec 3)
  /-- fcvt.s.w: signed word to float; rm is ignored (C5) (45_float.md R300). -/
  | fcvtSW (rd rs1 : RegIdx) (rm : BitVec 3)
  /-- fcvt.s.wu: unsigned word to float; rm is ignored (C5) (45_float.md R301). -/
  | fcvtSWU (rd rs1 : RegIdx) (rm : BitVec 3)
  /-- fmv.x.w: move float bits to an integer register; rs2 is not examined (45_float.md R302). -/
  | fmvXW (rd rs1 rs2 : RegIdx)
  /-- fmv.w.x: move integer bits to a float register; rs2 is not examined (45_float.md R303). -/
  | fmvWX (rd rs1 rs2 : RegIdx)
  /-- feq.s: float equal (45_float.md R304). -/
  | feqS (rd rs1 rs2 : RegIdx)
  /-- flt.s: float less than (45_float.md R305). -/
  | fltS (rd rs1 rs2 : RegIdx)
  /-- fle.s: float less than or equal (45_float.md R306). -/
  | fleS (rd rs1 rs2 : RegIdx)
  /-- fclass.s: float classify; rs2 is not examined (45_float.md R307). -/
  | fclassS (rd rs1 rs2 : RegIdx)
  /-- andn: AND with inverted operand (46_bitmanip.md R341). -/
  | andn (rd rs1 rs2 : RegIdx)
  /-- orn: OR with inverted operand (46_bitmanip.md R342). -/
  | orn (rd rs1 rs2 : RegIdx)
  /-- xnor: exclusive NOR (46_bitmanip.md R343). -/
  | xnor (rd rs1 rs2 : RegIdx)
  /-- clz: count leading zeros (46_bitmanip.md R344). -/
  | clz (rd rs1 : RegIdx)
  /-- ctz: count trailing zeros (46_bitmanip.md R345). -/
  | ctz (rd rs1 : RegIdx)
  /-- cpop: count set bits (46_bitmanip.md R346). -/
  | cpop (rd rs1 : RegIdx)
  /-- min: signed minimum (46_bitmanip.md R347). -/
  | min (rd rs1 rs2 : RegIdx)
  /-- max: signed maximum (46_bitmanip.md R348). -/
  | max (rd rs1 rs2 : RegIdx)
  /-- minu: unsigned minimum (46_bitmanip.md R349). -/
  | minu (rd rs1 rs2 : RegIdx)
  /-- maxu: unsigned maximum (46_bitmanip.md R350). -/
  | maxu (rd rs1 rs2 : RegIdx)
  /-- sext.b: sign-extend byte (46_bitmanip.md R351). -/
  | sextB (rd rs1 : RegIdx)
  /-- sext.h: sign-extend halfword (46_bitmanip.md R352). -/
  | sextH (rd rs1 : RegIdx)
  /-- zext.h: zero-extend halfword; rs2 is not examined (46_bitmanip.md R353). -/
  | zextH (rd rs1 rs2 : RegIdx)
  /-- rol: rotate left (46_bitmanip.md R354). -/
  | rol (rd rs1 rs2 : RegIdx)
  /-- ror: rotate right (46_bitmanip.md R355). -/
  | ror (rd rs1 rs2 : RegIdx)
  /-- rori: rotate right by immediate (46_bitmanip.md R356). -/
  | rori (rd rs1 : RegIdx) (shamt : BitVec 5)
  /-- orc.b: OR-combine each byte; imm[4:0] is not examined (46_bitmanip.md R357). -/
  | orcB (rd rs1 : RegIdx) (lo : BitVec 5)
  /-- rev8: reverse byte order; imm[4:0] is not examined (46_bitmanip.md R358). -/
  | rev8 (rd rs1 : RegIdx) (lo : BitVec 5)
  deriving DecidableEq, Repr

end Sys2Proof
end

