-- ==== Sys2Proof/WellFormed.lean ====
section
/-! DEFINITION. Which instructions the encoding can spell: every immediate in the range of its format's rule
(30_encoding.md R100 to R104, R107: "An immediate fits only if it lies in the range of its rule, and for B and J only
if it is even"). Register fields, rm, fmt, funct3 and shift amounts fit by their types. -/

namespace Sys2Proof

/-- An I or S immediate fits: -2048 .. 2047 (R100, R101). -/
abbrev immFits12 (imm : Word) : Prop := -2048 ≤ imm.toInt ∧ imm.toInt ≤ 2047

/-- A B immediate fits: -4096 .. 4094, even (R102). -/
abbrev immFits13 (imm : Word) : Prop := -4096 ≤ imm.toInt ∧ imm.toInt ≤ 4094 ∧ imm.toInt % 2 = 0

/-- A J immediate fits: -1048576 .. 1048574, even (R104). -/
abbrev immFits21 (imm : Word) : Prop := -1048576 ≤ imm.toInt ∧ imm.toInt ≤ 1048574 ∧ imm.toInt % 2 = 0

/-- A U immediate fits: its low 12 bits are zero (R103). -/
abbrev immFitsU (imm : Word) : Prop := imm.toNat % 4096 = 0

/-- The well-formed instructions. -/
def Instr.wf : Instr → Bool
  | .lui _ imm => decide (immFitsU imm)
  | .auipc _ imm => decide (immFitsU imm)
  | .jal _ imm => decide (immFits21 imm)
  | .jalr _ _ _ imm => decide (immFits12 imm)
  | .beq _ _ imm => decide (immFits13 imm)
  | .bne _ _ imm => decide (immFits13 imm)
  | .blt _ _ imm => decide (immFits13 imm)
  | .bge _ _ imm => decide (immFits13 imm)
  | .bltu _ _ imm => decide (immFits13 imm)
  | .bgeu _ _ imm => decide (immFits13 imm)
  | .lb _ _ imm => decide (immFits12 imm)
  | .lh _ _ imm => decide (immFits12 imm)
  | .lw _ _ imm => decide (immFits12 imm)
  | .lbu _ _ imm => decide (immFits12 imm)
  | .lhu _ _ imm => decide (immFits12 imm)
  | .sb _ _ imm => decide (immFits12 imm)
  | .sh _ _ imm => decide (immFits12 imm)
  | .sw _ _ imm => decide (immFits12 imm)
  | .addi _ _ imm => decide (immFits12 imm)
  | .slti _ _ imm => decide (immFits12 imm)
  | .sltiu _ _ imm => decide (immFits12 imm)
  | .xori _ _ imm => decide (immFits12 imm)
  | .ori _ _ imm => decide (immFits12 imm)
  | .andi _ _ imm => decide (immFits12 imm)
  | .slli _ _ _ => true
  | .srli _ _ _ => true
  | .srai _ _ _ => true
  | .add _ _ _ => true
  | .sub _ _ _ => true
  | .sll _ _ _ => true
  | .slt _ _ _ => true
  | .sltu _ _ _ => true
  | .xor _ _ _ => true
  | .srl _ _ _ => true
  | .sra _ _ _ => true
  | .or _ _ _ => true
  | .and _ _ _ => true
  | .fence _ _ _ imm => decide (immFits12 imm)
  | .ecall _ _ _ => true
  | .ebreak _ _ _ => true
  | .mul _ _ _ => true
  | .mulh _ _ _ => true
  | .mulhsu _ _ _ => true
  | .mulhu _ _ _ => true
  | .div _ _ _ => true
  | .divu _ _ _ => true
  | .rem _ _ _ => true
  | .remu _ _ _ => true
  | .faddS _ _ _ _ => true
  | .fsubS _ _ _ _ => true
  | .fmulS _ _ _ _ => true
  | .fdivS _ _ _ _ => true
  | .fsqrtS _ _ _ _ => true
  | .fmaddS _ _ _ _ _ _ => true
  | .fmsubS _ _ _ _ _ _ => true
  | .fnmsubS _ _ _ _ _ _ => true
  | .fnmaddS _ _ _ _ _ _ => true
  | .fsgnjS _ _ _ => true
  | .fsgnjnS _ _ _ => true
  | .fsgnjxS _ _ _ => true
  | .fminS _ _ _ => true
  | .fmaxS _ _ _ => true
  | .fcvtWS _ _ _ => true
  | .fcvtWUS _ _ _ => true
  | .fcvtSW _ _ _ => true
  | .fcvtSWU _ _ _ => true
  | .fmvXW _ _ _ => true
  | .fmvWX _ _ _ => true
  | .feqS _ _ _ => true
  | .fltS _ _ _ => true
  | .fleS _ _ _ => true
  | .fclassS _ _ _ => true
  | .andn _ _ _ => true
  | .orn _ _ _ => true
  | .xnor _ _ _ => true
  | .clz _ _ => true
  | .ctz _ _ => true
  | .cpop _ _ => true
  | .min _ _ _ => true
  | .max _ _ _ => true
  | .minu _ _ _ => true
  | .maxu _ _ _ => true
  | .sextB _ _ => true
  | .sextH _ _ => true
  | .zextH _ _ _ => true
  | .rol _ _ _ => true
  | .ror _ _ _ => true
  | .rori _ _ _ => true
  | .orcB _ _ _ => true
  | .rev8 _ _ _ => true

end Sys2Proof
end

