-- ==== Sys2Proof/Decode.lean ====
section
/-! DEFINITION. The decoder and the two-level dispatch registry (30_encoding.md), then the encoder written from the same
encoding tables. Decoding is total on every word and rejects by name: UnknownOpcode or UnknownInstruction. -/

namespace Sys2Proof

/-! ## Bit fields and sign extension -/

/-- `sext_N(v)` (00_scope.md R14), the source's single sign-extension primitive: shift the field's sign bit to the
word's top bit, then arithmetic-shift back. -/
def sext (n : Nat) (v : Word) : Word := (v <<< (32 - n)).sshiftRight (32 - n)

/-- `zext_N(v)` (R14): the low N bits, zeros above. -/
def zext (n : Nat) (v : Word) : Word := (v.setWidth n).setWidth 32

/-- A field of `n` bits placed at bit `lo` of a word. -/
def place {n : Nat} (v : BitVec n) (lo : Nat) : Word := v.setWidth 32 <<< lo

/-! ## The seven formats (R91 to R98) -/

/-- R format (R91). For an OP-FP instruction funct3 is also the rounding mode. -/
structure RFields where
  opcode : BitVec 7
  rd : RegIdx
  funct3 : BitVec 3
  rs1 : RegIdx
  rs2 : RegIdx
  funct7 : BitVec 7
  deriving DecidableEq, Repr

/-- I format (R92). -/
structure IFields where
  opcode : BitVec 7
  rd : RegIdx
  funct3 : BitVec 3
  rs1 : RegIdx
  imm : Word
  deriving DecidableEq, Repr

/-- S format (R93). -/
structure SFields where
  opcode : BitVec 7
  funct3 : BitVec 3
  rs1 : RegIdx
  rs2 : RegIdx
  imm : Word
  deriving DecidableEq, Repr

/-- B format (R94). -/
structure BFields where
  opcode : BitVec 7
  funct3 : BitVec 3
  rs1 : RegIdx
  rs2 : RegIdx
  imm : Word
  deriving DecidableEq, Repr

/-- U format (R95). -/
structure UFields where
  opcode : BitVec 7
  rd : RegIdx
  imm : Word
  deriving DecidableEq, Repr

/-- J format (R96). -/
structure JFields where
  opcode : BitVec 7
  rd : RegIdx
  imm : Word
  deriving DecidableEq, Repr

/-- R4 format (R97). -/
structure R4Fields where
  opcode : BitVec 7
  rd : RegIdx
  rm : BitVec 3
  rs1 : RegIdx
  rs2 : RegIdx
  fmt : BitVec 2
  rs3 : RegIdx
  deriving DecidableEq, Repr

/-- DecodedFields, the closed set of variants (R98). -/
inductive DecodedFields where
  | r (f : RFields)
  | i (f : IFields)
  | s (f : SFields)
  | b (f : BFields)
  | u (f : UFields)
  | j (f : JFields)
  | r4 (f : R4Fields)
  deriving DecidableEq, Repr

/-- The primary opcode, `word[6:0]` (R90). -/
def opcodeOf (w : Word) : BitVec 7 := w.extractLsb' 0 7
/-- rd, `word[11:7]` (R90). -/
def rdOf (w : Word) : RegIdx := w.extractLsb' 7 5
/-- funct3, or rm of a float instruction, `word[14:12]` (R90). -/
def funct3Of (w : Word) : BitVec 3 := w.extractLsb' 12 3
/-- rs1, `word[19:15]` (R90). -/
def rs1Of (w : Word) : RegIdx := w.extractLsb' 15 5
/-- rs2, `word[24:20]` (R90). -/
def rs2Of (w : Word) : RegIdx := w.extractLsb' 20 5
/-- funct7, `word[31:25]` (R90). -/
def funct7Of (w : Word) : BitVec 7 := w.extractLsb' 25 7
/-- fmt, `word[26:25]` (R90). -/
def fmtOf (w : Word) : BitVec 2 := w.extractLsb' 25 2
/-- rs3, `word[31:27]` (R90). -/
def rs3Of (w : Word) : RegIdx := w.extractLsb' 27 5

/-- I immediate: `sext_12(word[31:20])` (R100). -/
def immI (w : Word) : Word := sext 12 (place (w.extractLsb' 20 12) 0)

/-- S immediate: `sext_12(word[31:25] ‖ word[11:7])` (R101). -/
def immS (w : Word) : Word := sext 12 (place (w.extractLsb' 25 7) 5 ||| place (w.extractLsb' 7 5) 0)

/-- B immediate: `sext_13(word[31] ‖ word[7] ‖ word[30:25] ‖ word[11:8] ‖ 0b0)` (R102). -/
def immB (w : Word) : Word :=
  sext 13 (place (w.extractLsb' 31 1) 12 ||| place (w.extractLsb' 7 1) 11
    ||| place (w.extractLsb' 25 6) 5 ||| place (w.extractLsb' 8 4) 1)

/-- U immediate: `word[31:12] ‖ 0^12` (R103). -/
def immU (w : Word) : Word := place (w.extractLsb' 12 20) 12

/-- J immediate: `sext_21(word[31] ‖ word[19:12] ‖ word[20] ‖ word[30:21] ‖ 0b0)` (R104). -/
def immJ (w : Word) : Word :=
  sext 21 (place (w.extractLsb' 31 1) 20 ||| place (w.extractLsb' 12 8) 12
    ||| place (w.extractLsb' 20 1) 11 ||| place (w.extractLsb' 21 10) 1)

/-- `decode_R` (R91). -/
def decodeR (w : Word) : RFields := ⟨opcodeOf w, rdOf w, funct3Of w, rs1Of w, rs2Of w, funct7Of w⟩
/-- `decode_I` (R92). -/
def decodeI (w : Word) : IFields := ⟨opcodeOf w, rdOf w, funct3Of w, rs1Of w, immI w⟩
/-- `decode_S` (R93). -/
def decodeS (w : Word) : SFields := ⟨opcodeOf w, funct3Of w, rs1Of w, rs2Of w, immS w⟩
/-- `decode_B` (R94). -/
def decodeB (w : Word) : BFields := ⟨opcodeOf w, funct3Of w, rs1Of w, rs2Of w, immB w⟩
/-- `decode_U` (R95). -/
def decodeU (w : Word) : UFields := ⟨opcodeOf w, rdOf w, immU w⟩
/-- `decode_J` (R96). -/
def decodeJ (w : Word) : JFields := ⟨opcodeOf w, rdOf w, immJ w⟩
/-- `decode_R4` (R97). -/
def decodeR4 (w : Word) : R4Fields := ⟨opcodeOf w, rdOf w, funct3Of w, rs1Of w, rs2Of w, fmtOf w, rs3Of w⟩

/-! ## The registry: groups (R117) -/

/-- The 16 opcode groups (R117). -/
inductive Group where
  | load | miscMem | opImm | auipc | store | op | lui | madd | msub | nmsub | nmadd | opFp | branch | jalr | jal | system
  deriving DecidableEq, Repr

/-- The groups and their primary opcodes (R117). The other 112 opcode values have no group (R112, R133). -/
def groupTable : List (BitVec 7 × Group) :=
  [ (0x03#7, .load), (0x0F#7, .miscMem), (0x13#7, .opImm), (0x17#7, .auipc), (0x23#7, .store), (0x33#7, .op),
    (0x37#7, .lui), (0x43#7, .madd), (0x47#7, .msub), (0x4B#7, .nmsub), (0x4F#7, .nmadd), (0x53#7, .opFp),
    (0x63#7, .branch), (0x67#7, .jalr), (0x6F#7, .jal), (0x73#7, .system) ]

/-- The value a table lists for a key, if any: a slot that is not listed is empty (R111, R115). -/
def slotAt {K V : Type} [DecidableEq K] : List (K × V) → K → Option V
  | [], _ => none
  | (k, v) :: rest, key => if key = k then some v else slotAt rest key

/-- The group of a primary opcode (R112). -/
def groupOf (opcode : BitVec 7) : Option Group := slotAt groupTable opcode

/-! ## Keys (R118 to R124) -/

/-- imm[11:5] of an I immediate, `word[31:25]` (R105). -/
def immHi (imm : Word) : BitVec 7 := imm.extractLsb' 5 7
/-- imm[4:0] of an I immediate, `word[24:20]`, the shift amount (R105). -/
def immLo (imm : Word) : BitVec 5 := imm.extractLsb' 0 5

/-- OP key: `(funct7 << 3) | funct3`, a 10-bit space (R118, C1). -/
def opKey (f : RFields) : BitVec 10 := f.funct7.setWidth 10 <<< 3 ||| f.funct3.setWidth 10

/-- OpImmKey (R119, D19). -/
def opImmKey (f : IFields) : BitVec 3 × BitVec 7 × BitVec 5 :=
  if f.funct3 ≠ 0b001#3 ∧ f.funct3 ≠ 0b101#3 then (f.funct3, 0, 0)
  else if f.funct3 = 0b001#3 ∧ immHi f.imm = 0b0110000#7 then (f.funct3, immHi f.imm, immLo f.imm)
  else (f.funct3, immHi f.imm, 0)

/-- RMSET: the funct7 values whose funct3 is a rounding mode (R123). -/
def rmSet : List (BitVec 7) :=
  [0b0000000#7, 0b0000100#7, 0b0001000#7, 0b0001100#7, 0b0101100#7, 0b1100000#7, 0b1101000#7]

/-- RS2SET: the funct7 values that fold rs2 into the key (R123, D20). -/
def rs2Set : List (BitVec 7) := [0b1100000#7, 0b1101000#7]

/-- FpKey (R123). -/
def fpKey (f : RFields) : BitVec 7 × BitVec 3 × BitVec 5 :=
  (f.funct7, if f.funct7 ∈ rmSet then 0 else f.funct3, if f.funct7 ∈ rs2Set then f.rs2 else 0)

/-! ## Slots (R125 to R132) -/

/-- LOAD slots (0x03), key = funct3 (R127). -/
def loadSlots : List (BitVec 3 × (IFields → Instr)) :=
  [ (0b000#3, fun f => .lb f.rd f.rs1 f.imm),
    (0b001#3, fun f => .lh f.rd f.rs1 f.imm),
    (0b010#3, fun f => .lw f.rd f.rs1 f.imm),
    (0b100#3, fun f => .lbu f.rd f.rs1 f.imm),
    (0b101#3, fun f => .lhu f.rd f.rs1 f.imm) ]

/-- OP-IMM slots (0x13), key = OpImmKey (R126). -/
def opImmSlots : List ((BitVec 3 × BitVec 7 × BitVec 5) × (IFields → Instr)) :=
  [ ((0b000#3, 0, 0), fun f => .addi f.rd f.rs1 f.imm),
    ((0b010#3, 0, 0), fun f => .slti f.rd f.rs1 f.imm),
    ((0b011#3, 0, 0), fun f => .sltiu f.rd f.rs1 f.imm),
    ((0b100#3, 0, 0), fun f => .xori f.rd f.rs1 f.imm),
    ((0b110#3, 0, 0), fun f => .ori f.rd f.rs1 f.imm),
    ((0b111#3, 0, 0), fun f => .andi f.rd f.rs1 f.imm),
    ((0b001#3, 0b0000000#7, 0), fun f => .slli f.rd f.rs1 (immLo f.imm)),
    ((0b101#3, 0b0000000#7, 0), fun f => .srli f.rd f.rs1 (immLo f.imm)),
    ((0b101#3, 0b0100000#7, 0), fun f => .srai f.rd f.rs1 (immLo f.imm)),
    ((0b101#3, 0b0110000#7, 0), fun f => .rori f.rd f.rs1 (immLo f.imm)),
    ((0b101#3, 0b0010100#7, 0), fun f => .orcB f.rd f.rs1 (immLo f.imm)),
    ((0b101#3, 0b0110100#7, 0), fun f => .rev8 f.rd f.rs1 (immLo f.imm)),
    ((0b001#3, 0b0110000#7, 0b00000#5), fun f => .clz f.rd f.rs1),
    ((0b001#3, 0b0110000#7, 0b00001#5), fun f => .ctz f.rd f.rs1),
    ((0b001#3, 0b0110000#7, 0b00010#5), fun f => .cpop f.rd f.rs1),
    ((0b001#3, 0b0110000#7, 0b00100#5), fun f => .sextB f.rd f.rs1),
    ((0b001#3, 0b0110000#7, 0b00101#5), fun f => .sextH f.rd f.rs1) ]

/-- STORE slots (0x23), key = funct3 (R128). -/
def storeSlots : List (BitVec 3 × (SFields → Instr)) :=
  [ (0b000#3, fun f => .sb f.rs1 f.rs2 f.imm),
    (0b001#3, fun f => .sh f.rs1 f.rs2 f.imm),
    (0b010#3, fun f => .sw f.rs1 f.rs2 f.imm) ]

/-- OP slots (0x33), key = (funct7 << 3) | funct3 (R125). -/
def opSlots : List (BitVec 10 × (RFields → Instr)) :=
  [ (0, fun f => .add f.rd f.rs1 f.rs2),
    (256, fun f => .sub f.rd f.rs1 f.rs2),
    (1, fun f => .sll f.rd f.rs1 f.rs2),
    (2, fun f => .slt f.rd f.rs1 f.rs2),
    (3, fun f => .sltu f.rd f.rs1 f.rs2),
    (4, fun f => .xor f.rd f.rs1 f.rs2),
    (5, fun f => .srl f.rd f.rs1 f.rs2),
    (261, fun f => .sra f.rd f.rs1 f.rs2),
    (6, fun f => .or f.rd f.rs1 f.rs2),
    (7, fun f => .and f.rd f.rs1 f.rs2),
    (8, fun f => .mul f.rd f.rs1 f.rs2),
    (9, fun f => .mulh f.rd f.rs1 f.rs2),
    (10, fun f => .mulhsu f.rd f.rs1 f.rs2),
    (11, fun f => .mulhu f.rd f.rs1 f.rs2),
    (12, fun f => .div f.rd f.rs1 f.rs2),
    (13, fun f => .divu f.rd f.rs1 f.rs2),
    (14, fun f => .rem f.rd f.rs1 f.rs2),
    (15, fun f => .remu f.rd f.rs1 f.rs2),
    (263, fun f => .andn f.rd f.rs1 f.rs2),
    (262, fun f => .orn f.rd f.rs1 f.rs2),
    (260, fun f => .xnor f.rd f.rs1 f.rs2),
    (44, fun f => .min f.rd f.rs1 f.rs2),
    (46, fun f => .max f.rd f.rs1 f.rs2),
    (45, fun f => .minu f.rd f.rs1 f.rs2),
    (47, fun f => .maxu f.rd f.rs1 f.rs2),
    (36, fun f => .zextH f.rd f.rs1 f.rs2),
    (385, fun f => .rol f.rd f.rs1 f.rs2),
    (389, fun f => .ror f.rd f.rs1 f.rs2) ]

/-- OP-FP slots (0x53), key = FpKey (R131). -/
def opFpSlots : List ((BitVec 7 × BitVec 3 × BitVec 5) × (RFields → Instr)) :=
  [ ((0b0000000#7, 0, 0), fun f => .faddS f.rd f.rs1 f.rs2 f.funct3),
    ((0b0000100#7, 0, 0), fun f => .fsubS f.rd f.rs1 f.rs2 f.funct3),
    ((0b0001000#7, 0, 0), fun f => .fmulS f.rd f.rs1 f.rs2 f.funct3),
    ((0b0001100#7, 0, 0), fun f => .fdivS f.rd f.rs1 f.rs2 f.funct3),
    ((0b0101100#7, 0, 0), fun f => .fsqrtS f.rd f.rs1 f.rs2 f.funct3),
    ((0b0010000#7, 0b000#3, 0), fun f => .fsgnjS f.rd f.rs1 f.rs2),
    ((0b0010000#7, 0b001#3, 0), fun f => .fsgnjnS f.rd f.rs1 f.rs2),
    ((0b0010000#7, 0b010#3, 0), fun f => .fsgnjxS f.rd f.rs1 f.rs2),
    ((0b0010100#7, 0b000#3, 0), fun f => .fminS f.rd f.rs1 f.rs2),
    ((0b0010100#7, 0b001#3, 0), fun f => .fmaxS f.rd f.rs1 f.rs2),
    ((0b1110000#7, 0b000#3, 0), fun f => .fmvXW f.rd f.rs1 f.rs2),
    ((0b1111000#7, 0b000#3, 0), fun f => .fmvWX f.rd f.rs1 f.rs2),
    ((0b1010000#7, 0b010#3, 0), fun f => .feqS f.rd f.rs1 f.rs2),
    ((0b1010000#7, 0b001#3, 0), fun f => .fltS f.rd f.rs1 f.rs2),
    ((0b1010000#7, 0b000#3, 0), fun f => .fleS f.rd f.rs1 f.rs2),
    ((0b1110000#7, 0b001#3, 0), fun f => .fclassS f.rd f.rs1 f.rs2),
    ((0b1100000#7, 0, 0b00000#5), fun f => .fcvtWS f.rd f.rs1 f.funct3),
    ((0b1100000#7, 0, 0b00001#5), fun f => .fcvtWUS f.rd f.rs1 f.funct3),
    ((0b1101000#7, 0, 0b00000#5), fun f => .fcvtSW f.rd f.rs1 f.funct3),
    ((0b1101000#7, 0, 0b00001#5), fun f => .fcvtSWU f.rd f.rs1 f.funct3) ]

/-- BRANCH slots (0x63), key = funct3 (R129). -/
def branchSlots : List (BitVec 3 × (BFields → Instr)) :=
  [ (0b000#3, fun f => .beq f.rs1 f.rs2 f.imm),
    (0b001#3, fun f => .bne f.rs1 f.rs2 f.imm),
    (0b100#3, fun f => .blt f.rs1 f.rs2 f.imm),
    (0b101#3, fun f => .bge f.rs1 f.rs2 f.imm),
    (0b110#3, fun f => .bltu f.rs1 f.rs2 f.imm),
    (0b111#3, fun f => .bgeu f.rs1 f.rs2 f.imm) ]

/-- SYSTEM slots (0x73), key = signed(imm), key space 0 and 1 (R122, R130). -/
def systemSlots : List (Int × (IFields → Instr)) :=
  [ (0, fun f => .ecall f.rd f.funct3 f.rs1),
    (1, fun f => .ebreak f.rd f.funct3 f.rs1) ]

/-- The registry group's decode function, key function and slots applied to a word (R115, R117): the descriptor at the
key together with its decoded fields, here as the instruction they spell; none where the slot is empty or the key lies
outside the key space (D34). The single-slot groups' key is constant 0 (R121, R124, R132). -/
def Group.lookup (g : Group) (w : Word) : Option Instr :=
  match g with
  | .load => (slotAt loadSlots (decodeI w).funct3).map (· (decodeI w))
  | .miscMem => let f := decodeI w; some (.fence f.rd f.funct3 f.rs1 f.imm)
  | .opImm => (slotAt opImmSlots (opImmKey (decodeI w))).map (· (decodeI w))
  | .auipc => let f := decodeU w; some (.auipc f.rd f.imm)
  | .store => (slotAt storeSlots (decodeS w).funct3).map (· (decodeS w))
  | .op => (slotAt opSlots (opKey (decodeR w))).map (· (decodeR w))
  | .lui => let f := decodeU w; some (.lui f.rd f.imm)
  | .madd => let f := decodeR4 w; some (.fmaddS f.rd f.rs1 f.rs2 f.rs3 f.rm f.fmt)
  | .msub => let f := decodeR4 w; some (.fmsubS f.rd f.rs1 f.rs2 f.rs3 f.rm f.fmt)
  | .nmsub => let f := decodeR4 w; some (.fnmsubS f.rd f.rs1 f.rs2 f.rs3 f.rm f.fmt)
  | .nmadd => let f := decodeR4 w; some (.fnmaddS f.rd f.rs1 f.rs2 f.rs3 f.rm f.fmt)
  | .opFp => (slotAt opFpSlots (fpKey (decodeR w))).map (· (decodeR w))
  | .branch => (slotAt branchSlots (decodeB w).funct3).map (· (decodeB w))
  | .jalr => let f := decodeI w; some (.jalr f.rd f.funct3 f.rs1 f.imm)
  | .jal => let f := decodeJ w; some (.jal f.rd f.imm)
  | .system => (slotAt systemSlots (decodeI w).imm.toInt).map (· (decodeI w))

/-! ## Lookup (R115) -/

/-- Why a word spells no instruction (R115, R141, D11). -/
inductive DecodeError where
  /-- The primary opcode has no group. -/
  | unknownOpcode
  /-- The group has no descriptor at the key. -/
  | unknownInstruction
  deriving DecidableEq, Repr

/-- `Lookup(word)`, the registry's only run-time operation (R115). -/
def decode (w : Word) : Except DecodeError Instr :=
  match groupOf (opcodeOf w) with
  | none => .error .unknownOpcode
  | some g =>
    match g.lookup w with
    | none => .error .unknownInstruction
    | some i => .ok i

/-- A word from its four bytes, the lowest address first: little-endian, for fetch and for data (20_memory.md R61, R62). -/
def wordOfBytes (b0 b1 b2 b3 : Byte) : Word := place b3 24 ||| place b2 16 ||| place b1 8 ||| place b0 0

/-- Byte `k` of a word, `v[8k+7 : 8k]` (20_memory.md R63). -/
def byteOf (v : Word) (k : Nat) : Byte := v.extractLsb' (8 * k) 8

/-- The host's question: the instruction this decoder reads from the bytes of the word `w` (`nbits` of it given by the
table, the bits above them 0), laid out little-endian. -/
def decodeTableWord (nbits w : Nat) : Option Instr :=
  let v : Word := BitVec.ofNat 32 (w % 2 ^ nbits)
  (decode (wordOfBytes (byteOf v 0) (byteOf v 1) (byteOf v 2) (byteOf v 3))).toOption

/-! ## The encoder (R107, R108) -/

/-- `enc_R` (R91). -/
def encR (f : RFields) : Word :=
  place f.funct7 25 ||| place f.rs2 20 ||| place f.rs1 15 ||| place f.funct3 12 ||| place f.rd 7 ||| place f.opcode 0

/-- `enc_I` (R92, R107). -/
def encI (f : IFields) : Word :=
  place (f.imm.extractLsb' 0 12) 20 ||| place f.rs1 15 ||| place f.funct3 12 ||| place f.rd 7 ||| place f.opcode 0

/-- `enc_S` (R93, R107). -/
def encS (f : SFields) : Word :=
  place (f.imm.extractLsb' 5 7) 25 ||| place f.rs2 20 ||| place f.rs1 15 ||| place f.funct3 12
    ||| place (f.imm.extractLsb' 0 5) 7 ||| place f.opcode 0

/-- `enc_B` (R94, R107). -/
def encB (f : BFields) : Word :=
  place (f.imm.extractLsb' 12 1) 31 ||| place (f.imm.extractLsb' 5 6) 25 ||| place f.rs2 20 ||| place f.rs1 15
    ||| place f.funct3 12 ||| place (f.imm.extractLsb' 1 4) 8 ||| place (f.imm.extractLsb' 11 1) 7 ||| place f.opcode 0

/-- `enc_U` (R95, R107). -/
def encU (f : UFields) : Word := place (f.imm.extractLsb' 12 20) 12 ||| place f.rd 7 ||| place f.opcode 0

/-- `enc_J` (R96, R107). -/
def encJ (f : JFields) : Word :=
  place (f.imm.extractLsb' 20 1) 31 ||| place (f.imm.extractLsb' 1 10) 21 ||| place (f.imm.extractLsb' 11 1) 20
    ||| place (f.imm.extractLsb' 12 8) 12 ||| place f.rd 7 ||| place f.opcode 0

/-- `enc_R4` (R97). -/
def encR4 (f : R4Fields) : Word :=
  place f.rs3 27 ||| place f.fmt 25 ||| place f.rs2 20 ||| place f.rs1 15 ||| place f.rm 12 ||| place f.rd 7
    ||| place f.opcode 0

/-- The word a record of decoded fields spells (R108). -/
def DecodedFields.encode : DecodedFields → Word
  | .r f => encR f
  | .i f => encI f
  | .s f => encS f
  | .b f => encB f
  | .u f => encU f
  | .j f => encJ f
  | .r4 f => encR4 f

/-- The I immediate with the given imm[11:5] and imm[4:0], sign-extended (R100, R105). -/
def immOf (hi : BitVec 7) (lo : BitVec 5) : Word := sext 12 (place hi 5 ||| place lo 0)

/-- The decoded fields that spell an instruction: its row of the opcode map (R135) in the fixed fields, its own
operands in the rest. -/
def Instr.fields : Instr → DecodedFields
  | .lui rd imm => .u ⟨0x37#7, rd, imm⟩
  | .auipc rd imm => .u ⟨0x17#7, rd, imm⟩
  | .jal rd imm => .j ⟨0x6F#7, rd, imm⟩
  | .jalr rd funct3 rs1 imm => .i ⟨0x67#7, rd, funct3, rs1, imm⟩
  | .beq rs1 rs2 imm => .b ⟨0x63#7, 0, rs1, rs2, imm⟩
  | .bne rs1 rs2 imm => .b ⟨0x63#7, 1, rs1, rs2, imm⟩
  | .blt rs1 rs2 imm => .b ⟨0x63#7, 4, rs1, rs2, imm⟩
  | .bge rs1 rs2 imm => .b ⟨0x63#7, 5, rs1, rs2, imm⟩
  | .bltu rs1 rs2 imm => .b ⟨0x63#7, 6, rs1, rs2, imm⟩
  | .bgeu rs1 rs2 imm => .b ⟨0x63#7, 7, rs1, rs2, imm⟩
  | .lb rd rs1 imm => .i ⟨0x03#7, rd, 0, rs1, imm⟩
  | .lh rd rs1 imm => .i ⟨0x03#7, rd, 1, rs1, imm⟩
  | .lw rd rs1 imm => .i ⟨0x03#7, rd, 2, rs1, imm⟩
  | .lbu rd rs1 imm => .i ⟨0x03#7, rd, 4, rs1, imm⟩
  | .lhu rd rs1 imm => .i ⟨0x03#7, rd, 5, rs1, imm⟩
  | .sb rs1 rs2 imm => .s ⟨0x23#7, 0, rs1, rs2, imm⟩
  | .sh rs1 rs2 imm => .s ⟨0x23#7, 1, rs1, rs2, imm⟩
  | .sw rs1 rs2 imm => .s ⟨0x23#7, 2, rs1, rs2, imm⟩
  | .addi rd rs1 imm => .i ⟨0x13#7, rd, 0, rs1, imm⟩
  | .slti rd rs1 imm => .i ⟨0x13#7, rd, 2, rs1, imm⟩
  | .sltiu rd rs1 imm => .i ⟨0x13#7, rd, 3, rs1, imm⟩
  | .xori rd rs1 imm => .i ⟨0x13#7, rd, 4, rs1, imm⟩
  | .ori rd rs1 imm => .i ⟨0x13#7, rd, 6, rs1, imm⟩
  | .andi rd rs1 imm => .i ⟨0x13#7, rd, 7, rs1, imm⟩
  | .slli rd rs1 shamt => .i ⟨0x13#7, rd, 1, rs1, immOf 0b0000000#7 shamt⟩
  | .srli rd rs1 shamt => .i ⟨0x13#7, rd, 5, rs1, immOf 0b0000000#7 shamt⟩
  | .srai rd rs1 shamt => .i ⟨0x13#7, rd, 5, rs1, immOf 0b0100000#7 shamt⟩
  | .add rd rs1 rs2 => .r ⟨0x33#7, rd, 0, rs1, rs2, 0b0000000#7⟩
  | .sub rd rs1 rs2 => .r ⟨0x33#7, rd, 0, rs1, rs2, 0b0100000#7⟩
  | .sll rd rs1 rs2 => .r ⟨0x33#7, rd, 1, rs1, rs2, 0b0000000#7⟩
  | .slt rd rs1 rs2 => .r ⟨0x33#7, rd, 2, rs1, rs2, 0b0000000#7⟩
  | .sltu rd rs1 rs2 => .r ⟨0x33#7, rd, 3, rs1, rs2, 0b0000000#7⟩
  | .xor rd rs1 rs2 => .r ⟨0x33#7, rd, 4, rs1, rs2, 0b0000000#7⟩
  | .srl rd rs1 rs2 => .r ⟨0x33#7, rd, 5, rs1, rs2, 0b0000000#7⟩
  | .sra rd rs1 rs2 => .r ⟨0x33#7, rd, 5, rs1, rs2, 0b0100000#7⟩
  | .or rd rs1 rs2 => .r ⟨0x33#7, rd, 6, rs1, rs2, 0b0000000#7⟩
  | .and rd rs1 rs2 => .r ⟨0x33#7, rd, 7, rs1, rs2, 0b0000000#7⟩
  | .fence rd funct3 rs1 imm => .i ⟨0x0F#7, rd, funct3, rs1, imm⟩
  | .ecall rd funct3 rs1 => .i ⟨0x73#7, rd, funct3, rs1, 0⟩
  | .ebreak rd funct3 rs1 => .i ⟨0x73#7, rd, funct3, rs1, 1⟩
  | .mul rd rs1 rs2 => .r ⟨0x33#7, rd, 0, rs1, rs2, 0b0000001#7⟩
  | .mulh rd rs1 rs2 => .r ⟨0x33#7, rd, 1, rs1, rs2, 0b0000001#7⟩
  | .mulhsu rd rs1 rs2 => .r ⟨0x33#7, rd, 2, rs1, rs2, 0b0000001#7⟩
  | .mulhu rd rs1 rs2 => .r ⟨0x33#7, rd, 3, rs1, rs2, 0b0000001#7⟩
  | .div rd rs1 rs2 => .r ⟨0x33#7, rd, 4, rs1, rs2, 0b0000001#7⟩
  | .divu rd rs1 rs2 => .r ⟨0x33#7, rd, 5, rs1, rs2, 0b0000001#7⟩
  | .rem rd rs1 rs2 => .r ⟨0x33#7, rd, 6, rs1, rs2, 0b0000001#7⟩
  | .remu rd rs1 rs2 => .r ⟨0x33#7, rd, 7, rs1, rs2, 0b0000001#7⟩
  | .faddS rd rs1 rs2 rm => .r ⟨0x53#7, rd, rm, rs1, rs2, 0b0000000#7⟩
  | .fsubS rd rs1 rs2 rm => .r ⟨0x53#7, rd, rm, rs1, rs2, 0b0000100#7⟩
  | .fmulS rd rs1 rs2 rm => .r ⟨0x53#7, rd, rm, rs1, rs2, 0b0001000#7⟩
  | .fdivS rd rs1 rs2 rm => .r ⟨0x53#7, rd, rm, rs1, rs2, 0b0001100#7⟩
  | .fsqrtS rd rs1 rs2 rm => .r ⟨0x53#7, rd, rm, rs1, rs2, 0b0101100#7⟩
  | .fmaddS rd rs1 rs2 rs3 rm fmt => .r4 ⟨0x43#7, rd, rm, rs1, rs2, fmt, rs3⟩
  | .fmsubS rd rs1 rs2 rs3 rm fmt => .r4 ⟨0x47#7, rd, rm, rs1, rs2, fmt, rs3⟩
  | .fnmsubS rd rs1 rs2 rs3 rm fmt => .r4 ⟨0x4B#7, rd, rm, rs1, rs2, fmt, rs3⟩
  | .fnmaddS rd rs1 rs2 rs3 rm fmt => .r4 ⟨0x4F#7, rd, rm, rs1, rs2, fmt, rs3⟩
  | .fsgnjS rd rs1 rs2 => .r ⟨0x53#7, rd, 0, rs1, rs2, 0b0010000#7⟩
  | .fsgnjnS rd rs1 rs2 => .r ⟨0x53#7, rd, 1, rs1, rs2, 0b0010000#7⟩
  | .fsgnjxS rd rs1 rs2 => .r ⟨0x53#7, rd, 2, rs1, rs2, 0b0010000#7⟩
  | .fminS rd rs1 rs2 => .r ⟨0x53#7, rd, 0, rs1, rs2, 0b0010100#7⟩
  | .fmaxS rd rs1 rs2 => .r ⟨0x53#7, rd, 1, rs1, rs2, 0b0010100#7⟩
  | .fcvtWS rd rs1 rm => .r ⟨0x53#7, rd, rm, rs1, 0, 0b1100000#7⟩
  | .fcvtWUS rd rs1 rm => .r ⟨0x53#7, rd, rm, rs1, 1, 0b1100000#7⟩
  | .fcvtSW rd rs1 rm => .r ⟨0x53#7, rd, rm, rs1, 0, 0b1101000#7⟩
  | .fcvtSWU rd rs1 rm => .r ⟨0x53#7, rd, rm, rs1, 1, 0b1101000#7⟩
  | .fmvXW rd rs1 rs2 => .r ⟨0x53#7, rd, 0, rs1, rs2, 0b1110000#7⟩
  | .fmvWX rd rs1 rs2 => .r ⟨0x53#7, rd, 0, rs1, rs2, 0b1111000#7⟩
  | .feqS rd rs1 rs2 => .r ⟨0x53#7, rd, 2, rs1, rs2, 0b1010000#7⟩
  | .fltS rd rs1 rs2 => .r ⟨0x53#7, rd, 1, rs1, rs2, 0b1010000#7⟩
  | .fleS rd rs1 rs2 => .r ⟨0x53#7, rd, 0, rs1, rs2, 0b1010000#7⟩
  | .fclassS rd rs1 rs2 => .r ⟨0x53#7, rd, 1, rs1, rs2, 0b1110000#7⟩
  | .andn rd rs1 rs2 => .r ⟨0x33#7, rd, 7, rs1, rs2, 0b0100000#7⟩
  | .orn rd rs1 rs2 => .r ⟨0x33#7, rd, 6, rs1, rs2, 0b0100000#7⟩
  | .xnor rd rs1 rs2 => .r ⟨0x33#7, rd, 4, rs1, rs2, 0b0100000#7⟩
  | .clz rd rs1 => .i ⟨0x13#7, rd, 1, rs1, immOf 0b0110000#7 0b00000#5⟩
  | .ctz rd rs1 => .i ⟨0x13#7, rd, 1, rs1, immOf 0b0110000#7 0b00001#5⟩
  | .cpop rd rs1 => .i ⟨0x13#7, rd, 1, rs1, immOf 0b0110000#7 0b00010#5⟩
  | .min rd rs1 rs2 => .r ⟨0x33#7, rd, 4, rs1, rs2, 0b0000101#7⟩
  | .max rd rs1 rs2 => .r ⟨0x33#7, rd, 6, rs1, rs2, 0b0000101#7⟩
  | .minu rd rs1 rs2 => .r ⟨0x33#7, rd, 5, rs1, rs2, 0b0000101#7⟩
  | .maxu rd rs1 rs2 => .r ⟨0x33#7, rd, 7, rs1, rs2, 0b0000101#7⟩
  | .sextB rd rs1 => .i ⟨0x13#7, rd, 1, rs1, immOf 0b0110000#7 0b00100#5⟩
  | .sextH rd rs1 => .i ⟨0x13#7, rd, 1, rs1, immOf 0b0110000#7 0b00101#5⟩
  | .zextH rd rs1 rs2 => .r ⟨0x33#7, rd, 4, rs1, rs2, 0b0000100#7⟩
  | .rol rd rs1 rs2 => .r ⟨0x33#7, rd, 1, rs1, rs2, 0b0110000#7⟩
  | .ror rd rs1 rs2 => .r ⟨0x33#7, rd, 5, rs1, rs2, 0b0110000#7⟩
  | .rori rd rs1 shamt => .i ⟨0x13#7, rd, 5, rs1, immOf 0b0110000#7 shamt⟩
  | .orcB rd rs1 lo => .i ⟨0x13#7, rd, 5, rs1, immOf 0b0010100#7 lo⟩
  | .rev8 rd rs1 lo => .i ⟨0x13#7, rd, 5, rs1, immOf 0b0110100#7 lo⟩

/-- The word of an instruction (R108). -/
def encode (i : Instr) : Word := i.fields.encode

/-- The opcode map's row of an instruction, (match, mask), letter for letter from the table of R135. -/
def Instr.row : Instr → Word × Word
  | .lui _ _ => (0x00000037, 0x0000007F)
  | .auipc _ _ => (0x00000017, 0x0000007F)
  | .jal _ _ => (0x0000006F, 0x0000007F)
  | .jalr _ _ _ _ => (0x00000067, 0x0000007F)
  | .beq _ _ _ => (0x00000063, 0x0000707F)
  | .bne _ _ _ => (0x00001063, 0x0000707F)
  | .blt _ _ _ => (0x00004063, 0x0000707F)
  | .bge _ _ _ => (0x00005063, 0x0000707F)
  | .bltu _ _ _ => (0x00006063, 0x0000707F)
  | .bgeu _ _ _ => (0x00007063, 0x0000707F)
  | .lb _ _ _ => (0x00000003, 0x0000707F)
  | .lh _ _ _ => (0x00001003, 0x0000707F)
  | .lw _ _ _ => (0x00002003, 0x0000707F)
  | .lbu _ _ _ => (0x00004003, 0x0000707F)
  | .lhu _ _ _ => (0x00005003, 0x0000707F)
  | .sb _ _ _ => (0x00000023, 0x0000707F)
  | .sh _ _ _ => (0x00001023, 0x0000707F)
  | .sw _ _ _ => (0x00002023, 0x0000707F)
  | .addi _ _ _ => (0x00000013, 0x0000707F)
  | .slti _ _ _ => (0x00002013, 0x0000707F)
  | .sltiu _ _ _ => (0x00003013, 0x0000707F)
  | .xori _ _ _ => (0x00004013, 0x0000707F)
  | .ori _ _ _ => (0x00006013, 0x0000707F)
  | .andi _ _ _ => (0x00007013, 0x0000707F)
  | .slli _ _ _ => (0x00001013, 0xFE00707F)
  | .srli _ _ _ => (0x00005013, 0xFE00707F)
  | .srai _ _ _ => (0x40005013, 0xFE00707F)
  | .add _ _ _ => (0x00000033, 0xFE00707F)
  | .sub _ _ _ => (0x40000033, 0xFE00707F)
  | .sll _ _ _ => (0x00001033, 0xFE00707F)
  | .slt _ _ _ => (0x00002033, 0xFE00707F)
  | .sltu _ _ _ => (0x00003033, 0xFE00707F)
  | .xor _ _ _ => (0x00004033, 0xFE00707F)
  | .srl _ _ _ => (0x00005033, 0xFE00707F)
  | .sra _ _ _ => (0x40005033, 0xFE00707F)
  | .or _ _ _ => (0x00006033, 0xFE00707F)
  | .and _ _ _ => (0x00007033, 0xFE00707F)
  | .fence _ _ _ _ => (0x0000000F, 0x0000007F)
  | .ecall _ _ _ => (0x00000073, 0xFFF0007F)
  | .ebreak _ _ _ => (0x00100073, 0xFFF0007F)
  | .mul _ _ _ => (0x02000033, 0xFE00707F)
  | .mulh _ _ _ => (0x02001033, 0xFE00707F)
  | .mulhsu _ _ _ => (0x02002033, 0xFE00707F)
  | .mulhu _ _ _ => (0x02003033, 0xFE00707F)
  | .div _ _ _ => (0x02004033, 0xFE00707F)
  | .divu _ _ _ => (0x02005033, 0xFE00707F)
  | .rem _ _ _ => (0x02006033, 0xFE00707F)
  | .remu _ _ _ => (0x02007033, 0xFE00707F)
  | .faddS _ _ _ _ => (0x00000053, 0xFE00007F)
  | .fsubS _ _ _ _ => (0x08000053, 0xFE00007F)
  | .fmulS _ _ _ _ => (0x10000053, 0xFE00007F)
  | .fdivS _ _ _ _ => (0x18000053, 0xFE00007F)
  | .fsqrtS _ _ _ _ => (0x58000053, 0xFE00007F)
  | .fmaddS _ _ _ _ _ _ => (0x00000043, 0x0000007F)
  | .fmsubS _ _ _ _ _ _ => (0x00000047, 0x0000007F)
  | .fnmsubS _ _ _ _ _ _ => (0x0000004B, 0x0000007F)
  | .fnmaddS _ _ _ _ _ _ => (0x0000004F, 0x0000007F)
  | .fsgnjS _ _ _ => (0x20000053, 0xFE00707F)
  | .fsgnjnS _ _ _ => (0x20001053, 0xFE00707F)
  | .fsgnjxS _ _ _ => (0x20002053, 0xFE00707F)
  | .fminS _ _ _ => (0x28000053, 0xFE00707F)
  | .fmaxS _ _ _ => (0x28001053, 0xFE00707F)
  | .fcvtWS _ _ _ => (0xC0000053, 0xFFF0007F)
  | .fcvtWUS _ _ _ => (0xC0100053, 0xFFF0007F)
  | .fcvtSW _ _ _ => (0xD0000053, 0xFFF0007F)
  | .fcvtSWU _ _ _ => (0xD0100053, 0xFFF0007F)
  | .fmvXW _ _ _ => (0xE0000053, 0xFE00707F)
  | .fmvWX _ _ _ => (0xF0000053, 0xFE00707F)
  | .feqS _ _ _ => (0xA0002053, 0xFE00707F)
  | .fltS _ _ _ => (0xA0001053, 0xFE00707F)
  | .fleS _ _ _ => (0xA0000053, 0xFE00707F)
  | .fclassS _ _ _ => (0xE0001053, 0xFE00707F)
  | .andn _ _ _ => (0x40007033, 0xFE00707F)
  | .orn _ _ _ => (0x40006033, 0xFE00707F)
  | .xnor _ _ _ => (0x40004033, 0xFE00707F)
  | .clz _ _ => (0x60001013, 0xFFF0707F)
  | .ctz _ _ => (0x60101013, 0xFFF0707F)
  | .cpop _ _ => (0x60201013, 0xFFF0707F)
  | .min _ _ _ => (0x0A004033, 0xFE00707F)
  | .max _ _ _ => (0x0A006033, 0xFE00707F)
  | .minu _ _ _ => (0x0A005033, 0xFE00707F)
  | .maxu _ _ _ => (0x0A007033, 0xFE00707F)
  | .sextB _ _ => (0x60401013, 0xFFF0707F)
  | .sextH _ _ => (0x60501013, 0xFFF0707F)
  | .zextH _ _ _ => (0x08004033, 0xFE00707F)
  | .rol _ _ _ => (0x60001033, 0xFE00707F)
  | .ror _ _ _ => (0x60005033, 0xFE00707F)
  | .rori _ _ _ => (0x60005013, 0xFE00707F)
  | .orcB _ _ _ => (0x28005013, 0xFE00707F)
  | .rev8 _ _ _ => (0x68005013, 0xFE00707F)

end Sys2Proof
end

