-- ==== Sys2Proof/Config.lean ====
section
/-! DEFINITION. The open parameters of 00_scope.md R11. Those that are plain data are the fields of `Config.Params`,
which State carries, so that a statement about every state holds for every value. Those that are functions, and the
host's answers, are opaque constants: nothing can be proved about their values (log entries 6 and 7). -/

namespace Sys2Proof.Config

/-- What a load or store at an address that is no multiple of its width does (20_memory.md R66, D5). -/
inductive MisalignedPolicy where
  /-- The access is performed byte by byte. The spec's default. -/
  | allow
  /-- The access raises LoadMisaligned or StoreMisaligned. -/
  | fault
  deriving DecidableEq, Repr, Inhabited

/-- `fcvtTieBreak`: how a float to integer conversion rounds a value exactly halfway between two integers (D24). -/
inductive TieBreak where
  | tiesToEven
  | tiesAway
  deriving DecidableEq, Repr, Inhabited

/-- "the clamped boundary" a NaN converts to: the lower or the upper bound of the target type (D25). -/
inductive Boundary where
  | lower
  | upper
  deriving DecidableEq, Repr, Inhabited

/-- The operations whose NaN results `nanResult` names (45_float.md R281). -/
inductive FpOp where
  | fadd | fsub | fmul | fdiv | fsqrt | fmadd | fmsub | fnmsub | fnmadd
  deriving DecidableEq, Repr

/-- The operations `fminmaxBothNaN` and `fminmaxZero` speak of (45_float.md R296, R297). -/
inductive MinMaxOp where
  | fmin | fmax
  deriving DecidableEq, Repr

/-- A NaN pattern, and every NaN pattern: a sign and a fraction that is not zero, here `frac + 1` in 1 .. 2^23 - 1
(R16, R281: "exponent all ones, fraction non-zero"). -/
structure NanBits where
  sign : Bool
  frac : Fin 8388607
  deriving DecidableEq, Repr, Inhabited

/-- The parameters of R11 that are plain data. -/
structure Params where
  /-- `MEM_SIZE`: bytes in the flat memory buffer, 4 to 2^32 (D3). -/
  memSize : Nat
  /-- `misalignedDataPolicy` (D5). -/
  misalignedDataPolicy : MisalignedPolicy
  /-- `fcvtTieBreak` (D24). -/
  fcvtTieBreak : TieBreak
  /-- `fcvtNaN_W`: FCVT.W.S of a NaN, 0x80000000 (lower) or 0x7FFFFFFF (upper) (D25). -/
  fcvtNaNW : Boundary
  /-- `fcvtNaN_WU`: FCVT.WU.S of a NaN, 0x00000000 (lower) or 0xFFFFFFFF (upper) (D25). -/
  fcvtNaNWU : Boundary
  deriving DecidableEq, Repr

/-- The legal values of R11: MEM_SIZE is 4 to 2^32; every value of the other fields is legal. -/
abbrev Params.wf (p : Params) : Prop := 4 ≤ p.memSize ∧ p.memSize ≤ 2 ^ 32

/-- FREE VALUE (log entry 6): the tie rule of `State.reset`. -/
opaque fcvtTieBreak : TieBreak

/-- FREE VALUE (log entry 6): the boundary FCVT.W.S gives a NaN in `State.reset`. -/
opaque fcvtNaNW : Boundary

/-- FREE VALUE (log entry 6): the boundary FCVT.WU.S gives a NaN in `State.reset`. -/
opaque fcvtNaNWU : Boundary

/-- FREE VALUE (log entry 6): `nanResult(op, operands)`, any NaN, as a function of the operation and its operands
in register order (R281, D26). -/
opaque nanResult : FpOp → List Word → NanBits

/-- FREE VALUE (log entry 6): `fminmaxBothNaN(op, a, b)`, any NaN (R296, R297, D27). -/
opaque fminmaxBothNaN : MinMaxOp → Word → Word → NanBits

/-- FREE VALUE (log entry 6): `fminmaxZero(op, a, b)`, the sign of the zero FMIN.S or FMAX.S gives for +0 and -0
(R296, R297, D27): true is -0. -/
opaque fminmaxZero : MinMaxOp → Word → Word → Bool

/-- FREE VALUE (log entry 7): draw number `draw` of `hostWrite(fd, bytes)`: the word that goes to a0
(43_system.md R243, R245). -/
opaque hostWriteResult (draw : Nat) (fd : Word) (bytes : List Byte) : Word

/-- FREE VALUE (log entry 7): draw number `draw` of `hostRead(fd, n)`: how many bytes the host delivers, at most n
(R245: `length(bytes) ≤ n`; an answer outside that bound has no move, 70_reset_and_hazards.md R415). -/
opaque hostReadCount (draw : Nat) (fd : Word) (n : Nat) : Fin (n + 1)

/-- FREE VALUE (log entry 7): draw number `draw` of `hostRead(fd, n)`: byte j of the answer (R244, R245). -/
opaque hostReadByte (draw : Nat) (fd : Word) (n j : Nat) : Byte

/-- FREE VALUE (log entry 7): draw number `draw` of `hostRead(fd, n)`: the word that goes to a0 (R244, R245). -/
opaque hostReadResult (draw : Nat) (fd : Word) (n : Nat) : Word

end Sys2Proof.Config
end

