-- ==== Sys2Proof/Machine/State.lean ====
section
/-! DEFINITION. The state of the core as plain data (10_state.md R20), the launch that makes it (70_reset_and_hazards.md
R410) and the state after reset. -/

namespace Sys2Proof.Machine

/-- The content of a register cell: a value, or `Unwritten`, the spec's own third value of a register no launch value
and no instruction has written (10_state.md R20, R21, D7). -/
inductive RegCell where
  | unwritten
  | val (v : Word)
  deriving DecidableEq, Repr

/-- The register files UnwrittenRegister names (60_exceptions.md R380). -/
inductive RegFile where
  | X
  | F
  deriving DecidableEq, Repr

/-- The 13 stop outcomes (60_exceptions.md R380), each with what its row records besides the pc and the word. -/
inductive StopReason where
  /-- Lookup: the opcode has no group. -/
  | unknownOpcode
  /-- Lookup: empty slot, or key outside the key space. -/
  | unknownInstruction
  /-- Fetch: pc mod 4 ≠ 0. -/
  | fetchMisaligned
  /-- Fetch: InRange(pc, 4) fails. -/
  | fetchOutOfRange
  /-- LB, LH, LW, LBU, LHU: the bytes are not all in memory. -/
  | loadOutOfRange (addr : Word)
  /-- SB, SH, SW: the bytes are not all in memory. -/
  | storeOutOfRange (addr : Word)
  /-- LH, LW, LHU under the policy `fault`. -/
  | loadMisaligned (addr : Word)
  /-- SH, SW under the policy `fault`. -/
  | storeMisaligned (addr : Word)
  /-- Any instruction that reads an `Unwritten` register. -/
  | unwrittenRegister (file : RegFile) (index : RegIdx)
  /-- The float instructions that apply rm, with rm 5 or 6. -/
  | reservedRoundingMode (rm : BitVec 3)
  /-- EBREAK. -/
  | breakpoint
  /-- ECALL: another call number, or a wrong fd (recorded where one was read). -/
  | unsupportedEcall (n : Word) (fd : Option Word)
  /-- ECALL write or read: the buffer is not in range. -/
  | ecallOutOfRange (buf len : Word)
  deriving DecidableEq, Repr

/-- The spec's own numeric codes (R380). -/
def StopReason.code : StopReason → Nat
  | .unknownOpcode => 1
  | .unknownInstruction => 2
  | .fetchMisaligned => 3
  | .fetchOutOfRange => 4
  | .loadOutOfRange _ => 5
  | .storeOutOfRange _ => 6
  | .loadMisaligned _ => 7
  | .storeMisaligned _ => 8
  | .unwrittenRegister _ _ => 9
  | .reservedRoundingMode _ => 10
  | .breakpoint => 11
  | .unsupportedEcall _ _ => 12
  | .ecallOutOfRange _ _ => 13

/-- What `Faulted(reason, info)` records (10_state.md R33): the reason with its operands, the pc of the instruction that
stopped, and the instruction word where the fetch succeeded. -/
structure FaultRecord where
  reason : StopReason
  pc : Word
  word : Option Word
  deriving DecidableEq, Repr

/-- The loop's state (10_state.md R30 to R33). -/
inductive RunState where
  | running
  | halted (code : Word)
  | faulted (record : FaultRecord)
  deriving DecidableEq, Repr

/-- The exit code, `signed(code)`; it exists only inside Halted (10_state.md R31, R32, R45). -/
def RunState.exitCode : RunState → Option Int
  | .halted code => some code.toInt
  | .running => none
  | .faulted _ => none

/-- A host event (10_state.md R35). -/
inductive HostEvent where
  /-- `Write(fd, bytes)` (43_system.md R243). -/
  | write (fd : Word) (bytes : List Byte)
  /-- `Read(fd, requested, bytes)` (43_system.md R244). -/
  | read (fd : Word) (requested : Nat) (bytes : List Byte)
  deriving DecidableEq, Repr

/-- Memory: the bytes that are not 0, by address, addresses strictly rising; an address that is not listed reads as 0
(log entry 3). -/
abbrev Memory := List Host.Cell

/-- What an address that memory does not list reads as: 0 (log entry 3). -/
def Memory.unlisted : Byte := 0#8

/-- The state of the core (10_state.md R20), with the parameters of 00_scope.md R11 that are data and the counter of the
host's draws, both the model's own fields (log entries 5 to 7). -/
structure State where
  /-- x0 .. x31; cell 0 is hard-wired by the read and write operations (R21, R22). -/
  x : Vector RegCell 32
  /-- f0 .. f31 (R24). -/
  f : Vector RegCell 32
  /-- The address of the instruction the next step fetches (R26). -/
  pc : Word
  /-- The flat memory buffer (R34). -/
  mem : Memory
  /-- The loop's state (R30). -/
  run : RunState
  /-- What the environment-call handler was asked and answered (R35). -/
  hostLog : List HostEvent
  /-- The number of the next draw from the host oracle (43_system.md R245). -/
  hostDraws : Nat
  /-- The open parameters (00_scope.md R11); no step writes them. -/
  params : Config.Params
  deriving DecidableEq, Repr

/-- A step that is not a next state for a reason of the machine. Every stop outcome of the SPEC (R380) is a next state
with `run = Faulted`, as R33 and R384 describe it, and none of these. -/
inductive Fault where
  /-- Raised by `step` alone: `run` is Halted or Faulted, and "no step is enabled from them" (10_state.md R30, R40;
  93_implementation_defined.md row 34, "stuck"). Safe: the spec gives no move here either. -/
  | notRunning
  deriving DecidableEq, Repr

/-- A step for which the model has no meaning. -/
inductive Refusal where
  /-- Raised by an arm of `exec` whose instruction has no meaning yet. Safe: nothing is claimed of it. -/
  | notModelled (mnemonic : String)
  deriving DecidableEq, Repr

/-- What a step or an instruction answers. -/
abbrev Out := Host.Outcome State Fault Refusal

/-- The launch parameters (00_scope.md R11; 70_reset_and_hazards.md R410 to R413). -/
structure Launch where
  params : Config.Params
  /-- x1 .. x31 at entry; entry 0 of the vector is not used. -/
  initX : Vector RegCell 32
  initF : Vector RegCell 32
  /-- The loader's image, in memory's canonical form. -/
  initMem : Memory
  /-- The loader's entry address. -/
  entry : Word
  deriving DecidableEq, Repr

/-- A fresh state (70_reset_and_hazards.md R410 step 3; 10_state.md R47). -/
def State.launch (l : Launch) : State where
  x := l.initX.set 0 (.val 0#32)
  f := l.initF
  pc := l.entry
  mem := l.initMem
  run := .running
  hostLog := []
  hostDraws := 0
  params := l.params

/-- `initRegs`' default: every register `Unwritten` (00_scope.md R11, 70_reset_and_hazards.md R413). -/
def unwrittenFile : Vector RegCell 32 := Vector.replicate 32 .unwritten

/-- A register file in which every register holds 0 (log entry 2). -/
def zeroFile : Vector RegCell 32 := Vector.replicate 32 (.val 0#32)

/-- The parameters of the reset launch: MEM_SIZE 2^32 (log entry 5), the spec's default policy, and the open choices
left free (log entry 6). -/
def resetParams : Config.Params where
  memSize := 2 ^ 32
  misalignedDataPolicy := .allow
  fcvtTieBreak := Config.fcvtTieBreak
  fcvtNaNW := Config.fcvtNaNW
  fcvtNaNWU := Config.fcvtNaNWU

/-- The machine right after reset: the launch with every register 0 (log entry 2), no image (log entry 3) and entry 0
(log entry 4). -/
def State.reset : State :=
  State.launch { params := resetParams, initX := zeroFile, initF := zeroFile, initMem := [], entry := 0 }

end Sys2Proof.Machine
end

