-- ==== Sys2Proof/Machine/Ops.lean ====
section
/-! DEFINITION. The named operations over memory, registers, the pc and the run state: memory reads and writes
(20_memory.md R62 to R64), register reads and writes (10_state.md R21, R22, R24), taking a stop outcome (R33, R384) and
halting (R31), and fetch (R41). There is no trap entry and no return from one: "A fault ends the run"
(60_exceptions.md R392, R393). -/

namespace Sys2Proof.Machine

/-! ## Memory -/

/-- Memory's canonical form: addresses strictly rising, and no entry that equals what an unlisted address reads as. -/
def Memory.wf : Memory → Bool
  | [] => true
  | [(_, v)] => v != Memory.unlisted
  | (a, v) :: (b, w) :: rest => v != Memory.unlisted && decide (a < b) && Memory.wf ((b, w) :: rest)

/-- The byte at an address (20_memory.md R60). -/
def Memory.read : Memory → Nat → Byte
  | [], _ => Memory.unlisted
  | (b, v) :: rest, a => if a = b then v else Memory.read rest a

/-- A cell listed at the head, or not listed where its value is what an unlisted address reads as. -/
def Memory.cons (a : Nat) (v : Byte) (m : Memory) : Memory := if v = Memory.unlisted then m else (a, v) :: m

/-- The byte at an address set, in canonical form. -/
def Memory.write : Memory → Nat → Byte → Memory
  | [], a, v => Memory.cons a v []
  | (b, w) :: rest, a, v =>
    if a < b then Memory.cons a v ((b, w) :: rest)
    else if a = b then Memory.cons a v rest
    else (b, w) :: Memory.write rest a v

/-- `mem[a + k] := bytes[k]` for every k (20_memory.md R63; 43_system.md R244). -/
def Memory.writeBytes : Memory → Nat → List Byte → Memory
  | m, _, [] => m
  | m, a, v :: rest => Memory.writeBytes (Memory.write m a v) (a + 1) rest

/-- `[mem[a + k] for k in 0 .. n - 1]` (43_system.md R243). -/
def Memory.readBytes (m : Memory) (a : Nat) : Nat → List Byte
  | 0 => []
  | n + 1 => m.read a :: Memory.readBytes m (a + 1) n

/-- `MemRead(addr, 1)`, zero-extended (20_memory.md R62). -/
def Memory.read8 (m : Memory) (a : Nat) : Word := wordOfBytes (m.read a) 0 0 0

/-- `MemRead(addr, 2)` = mem[a+1] ‖ mem[a], zero-extended (R62). -/
def Memory.read16 (m : Memory) (a : Nat) : Word := wordOfBytes (m.read a) (m.read (a + 1)) 0 0

/-- `MemRead(addr, 4)` = mem[a+3] ‖ mem[a+2] ‖ mem[a+1] ‖ mem[a] (R62). -/
def Memory.read32 (m : Memory) (a : Nat) : Word :=
  wordOfBytes (m.read a) (m.read (a + 1)) (m.read (a + 2)) (m.read (a + 3))

/-- The low `n` bytes of a word, the least significant first (R61, R63). -/
def bytesOf (v : Word) (n : Nat) : List Byte := (List.range n).map (byteOf v)

/-- `InRange(addr, n)`: computed over the integers without wrap-around (R64). -/
abbrev State.InRange (s : State) (addr : Word) (n : Nat) : Prop := addr.toNat + n ≤ s.params.memSize

/-! ## What an action answers -/

/-- What a semantic action answers before the step is closed: a stop outcome, or the state it leaves
(30_encoding.md R110). -/
abbrev Act := Except StopReason State

/-! ## Registers -/

/-- The cell of integer register `r`; x0 always holds 0 (10_state.md R21). -/
def State.xCell (s : State) (r : RegIdx) : RegCell := if r = 0#5 then .val 0#32 else s.x[r.toNat]

/-- The cell of float register `r`; f0 is ordinary (R24). -/
def State.fCell (s : State) (r : RegIdx) : RegCell := s.f[r.toNat]

/-- `x[i]` (R21). -/
def State.readX (s : State) (r : RegIdx) : Except StopReason Word :=
  match s.xCell r with
  | .val v => .ok v
  | .unwritten => .error (.unwrittenRegister .X r)

/-- `f[i]` (R24). -/
def State.readF (s : State) (r : RegIdx) : Except StopReason Word :=
  match s.fCell r with
  | .val v => .ok v
  | .unwritten => .error (.unwrittenRegister .F r)

/-- `x[i] <- v`: no effect for i = 0 (R22). -/
def State.writeX (s : State) (r : RegIdx) (v : Word) : State :=
  if r = 0#5 then s else { s with x := s.x.set r.toNat (.val v) }

/-- `f[i] <- v`: every index, f0 included (R24). -/
def State.writeF (s : State) (r : RegIdx) (v : Word) : State := { s with f := s.f.set r.toNat (.val v) }

/-! ## The pc and the run state -/

/-- `pc <- t` (00_scope.md R15). -/
def State.jump (s : State) (t : Word) : State := { s with pc := t }

/-- `pc <- pc + 4`, modulo 2^32 (10_state.md R27, R28). -/
def State.advance (s : State) : State := s.jump (s.pc + 4)

/-- `Halt(code)` (R31): sets `run` and changes nothing else; the pc stays. -/
def State.halt (s : State) (code : Word) : State := { s with run := .halted code }

/-- TAKING A STOP OUTCOME, `raise F(info)` (R33, R384): the only effect is `run := Faulted(reason, info)`; the record
holds the pc and the word where one was fetched. -/
def State.raise (s : State) (reason : StopReason) (word : Option Word) : State :=
  { s with run := .faulted { reason := reason, pc := s.pc, word := word } }

/-- The end of an instruction's step (R43): the state its action leaves, or the stop outcome it raises, taken from the
state before the step, so that a fault is all-or-nothing (60_exceptions.md R384). -/
def complete (i : Instr) (s : State) (a : Act) : Out :=
  match a with
  | .ok t => .next t
  | .error reason => .next (s.raise reason (some (encode i)))

/-! ## Fetch and lookup -/

/-- Fetch (R41): alignment, then range, then the little-endian word at the pc. -/
def State.fetch (s : State) : Except StopReason Word :=
  if s.pc.toNat % 4 ≠ 0 then .error .fetchMisaligned
  else if ¬ s.InRange s.pc 4 then .error .fetchOutOfRange
  else .ok (s.mem.read32 s.pc.toNat)

/-- The stop outcome of a dispatch miss (R42, 60_exceptions.md R381). -/
def lookupReason : DecodeError → StopReason
  | .unknownOpcode => .unknownOpcode
  | .unknownInstruction => .unknownInstruction

/-- The word `w` placed where the next step fetches. -/
def State.placeWord (s : State) (w : Word) : State := { s with mem := s.mem.writeBytes s.pc.toNat (bytesOf w 4) }

end Sys2Proof.Machine
end

