-- ==== Sys2Proof/Machine/Operands.lean ====
section
/-! DEFINITION. The operand forms: register and register-immediate computations that write an integer register
(40_base_alu.md R160), the same with float registers (45_float.md), branches (41_control_flow.md R200), loads and stores
(42_load_store.md R220), and the rounding mode of rm (45_float.md R280). Every form reads all its sources in the order
rs1, rs2, rs3 and only then writes (00_scope.md R15, D9). -/

namespace Sys2Proof.Machine

/-- Integer result, step to the next instruction: `x[rd] <- v; pc <- pc + 4`. -/
def State.setX (s : State) (rd : RegIdx) (v : Word) : Act := .ok (s.writeX rd v).advance

/-- Float result, step to the next instruction: `f[rd] <- v; pc <- pc + 4`. -/
def State.setF (s : State) (rd : RegIdx) (v : Word) : Act := .ok (s.writeF rd v).advance

/-- `x[rd] <- g x[rs1]`. -/
def State.opX (s : State) (rd rs1 : RegIdx) (g : Word → Word) : Act := do
  let a ← s.readX rs1
  s.setX rd (g a)

/-- `x[rd] <- g x[rs1] x[rs2]`. -/
def State.opXX (s : State) (rd rs1 rs2 : RegIdx) (g : Word → Word → Word) : Act := do
  let a ← s.readX rs1
  let b ← s.readX rs2
  s.setX rd (g a b)

/-- `if c x[rs1] x[rs2] then pc <- pc + imm else pc <- pc + 4` (41_control_flow.md R200). -/
def State.branch (s : State) (rs1 rs2 : RegIdx) (imm : Word) (c : Word → Word → Bool) : Act := do
  let a ← s.readX rs1
  let b ← s.readX rs2
  .ok (if c a b then s.jump (s.pc + imm) else s.advance)

/-! ## Loads and stores (42_load_store.md R220) -/

/-- Steps 3 and 4 of R220: the alignment check under the policy `fault`, then the range check. -/
def State.checkAccess (s : State) (addr : Word) (n : Nat) (misaligned outOfRange : StopReason) :
    Except StopReason Unit :=
  if s.params.misalignedDataPolicy = .fault ∧ addr.toNat % n ≠ 0 then .error misaligned
  else if ¬ s.InRange addr n then .error outOfRange
  else .ok ()

/-- A load of `n` bytes: `x[rd] <- g mem addr` with `addr = x[rs1] + imm` modulo 2^32. The access and its checks are made
for rd = x0 too (R230). -/
def State.load (s : State) (rd rs1 : RegIdx) (imm : Word) (n : Nat) (g : Memory → Nat → Word) : Act := do
  let base ← s.readX rs1
  let addr := base + imm
  s.checkAccess addr n (.loadMisaligned addr) (.loadOutOfRange addr)
  s.setX rd (g s.mem addr.toNat)

/-- A store of the low `n` bytes of x[rs2] at `x[rs1] + imm` modulo 2^32: all of them or none (20_memory.md R63). -/
def State.store (s : State) (rs1 rs2 : RegIdx) (imm : Word) (n : Nat) : Act := do
  let base ← s.readX rs1
  let data ← s.readX rs2
  let addr := base + imm
  s.checkAccess addr n (.storeMisaligned addr) (.storeOutOfRange addr)
  .ok ({ s with mem := s.mem.writeBytes addr.toNat (bytesOf data n) } : State).advance

/-! ## Float operand forms (45_float.md) -/

/-- The rounding modes (00_scope.md R16). -/
inductive RoundMode where
  /-- To nearest, ties to even. -/
  | rne
  /-- Toward zero. -/
  | rtz
  /-- Toward -∞. -/
  | rdn
  /-- Toward +∞. -/
  | rup
  deriving DecidableEq, Repr

/-- The mode of rm (R280): 4 collapses to nearest-even (C6), 7 falls back to nearest-even, 5 and 6 raise. -/
def roundMode (rm : BitVec 3) : Except StopReason RoundMode :=
  if rm = 0#3 then .ok .rne
  else if rm = 1#3 then .ok .rtz
  else if rm = 2#3 then .ok .rdn
  else if rm = 3#3 then .ok .rup
  else if rm = 4#3 then .ok .rne
  else if rm = 7#3 then .ok .rne
  else .error (.reservedRoundingMode rm)

/-- `f[rd] <- g f[rs1] f[rs2]`. -/
def State.opFF (s : State) (rd rs1 rs2 : RegIdx) (g : Word → Word → Word) : Act := do
  let a ← s.readF rs1
  let b ← s.readF rs2
  s.setF rd (g a b)

/-- `f[rd] <- g mode f[rs1] f[rs2]`; rm is checked before any register is read (R280, 60_exceptions.md R389). -/
def State.opFFrm (s : State) (rd rs1 rs2 : RegIdx) (rm : BitVec 3) (g : RoundMode → Word → Word → Word) : Act := do
  let m ← roundMode rm
  s.opFF rd rs1 rs2 (g m)

/-- `f[rd] <- g mode f[rs1]`. -/
def State.opFrm (s : State) (rd rs1 : RegIdx) (rm : BitVec 3) (g : RoundMode → Word → Word) : Act := do
  let m ← roundMode rm
  let a ← s.readF rs1
  s.setF rd (g m a)

/-- `f[rd] <- g mode f[rs1] f[rs2] f[rs3]` (R289 to R292). -/
def State.opFFFrm (s : State) (rd rs1 rs2 rs3 : RegIdx) (rm : BitVec 3)
    (g : RoundMode → Word → Word → Word → Word) : Act := do
  let m ← roundMode rm
  let a ← s.readF rs1
  let b ← s.readF rs2
  let c ← s.readF rs3
  s.setF rd (g m a b c)

/-- `x[rd] <- g f[rs1] f[rs2]` (R304 to R306). -/
def State.opXFF (s : State) (rd rs1 rs2 : RegIdx) (g : Word → Word → Word) : Act := do
  let a ← s.readF rs1
  let b ← s.readF rs2
  s.setX rd (g a b)

/-- `x[rd] <- g f[rs1]` (R298, R299, R302, R307). -/
def State.opXF (s : State) (rd rs1 : RegIdx) (g : Word → Word) : Act := do
  let a ← s.readF rs1
  s.setX rd (g a)

/-- `f[rd] <- g x[rs1]` (R300, R301, R303). -/
def State.opFX (s : State) (rd rs1 : RegIdx) (g : Word → Word) : Act := do
  let a ← s.readX rs1
  s.setF rd (g a)

end Sys2Proof.Machine
end

