-- ==== Sys2Proof/Machine/Alu.lean ====
section
/-! DEFINITION. LUI, AUIPC, and the OP and OP-IMM operations of the base set (40_base_alu.md R160 to R182). Everything is modulo 2^32;
a register shift amount is x[rs2][4:0], an immediate one imm[4:0]. -/

namespace Sys2Proof.Machine

/-- `v << n` (00_scope.md R13). -/
def shl (a : Word) (n : BitVec 5) : Word := a <<< n.toNat
/-- `v >>u n` (R13). -/
def shrU (a : Word) (n : BitVec 5) : Word := a >>> n.toNat
/-- `v >>s n` (R13). -/
def shrS (a : Word) (n : BitVec 5) : Word := a.sshiftRight n.toNat

/-- The amount a register gives a shift or rotation, `x[rs2][4:0]` (R160, 46_bitmanip.md R340). -/
def amount (b : Word) : BitVec 5 := b.extractLsb' 0 5

/-- LUI (R180): load upper immediate. -/
def execLui (rd : RegIdx) (imm : Word) (s : State) : Out :=
  complete (.lui rd imm) s (s.setX rd imm)

/-- AUIPC (R181): add upper immediate to pc. -/
def execAuipc (rd : RegIdx) (imm : Word) (s : State) : Out :=
  complete (.auipc rd imm) s (s.setX rd (s.pc + imm))

/-- ADDI (R171): add immediate. -/
def execAddi (rd rs1 : RegIdx) (imm : Word) (s : State) : Out :=
  complete (.addi rd rs1 imm) s (s.opX rd rs1 (fun a => a + imm))

/-- SLTI (R172): set if less than immediate, signed. -/
def execSlti (rd rs1 : RegIdx) (imm : Word) (s : State) : Out :=
  complete (.slti rd rs1 imm) s (s.opX rd rs1 (fun a => boolWord (ltS a imm)))

/-- SLTIU (R173): set if less than immediate, unsigned. -/
def execSltiu (rd rs1 : RegIdx) (imm : Word) (s : State) : Out :=
  complete (.sltiu rd rs1 imm) s (s.opX rd rs1 (fun a => boolWord (ltU a imm)))

/-- XORI (R174): exclusive or immediate. -/
def execXori (rd rs1 : RegIdx) (imm : Word) (s : State) : Out :=
  complete (.xori rd rs1 imm) s (s.opX rd rs1 (fun a => a ^^^ imm))

/-- ORI (R175): or immediate. -/
def execOri (rd rs1 : RegIdx) (imm : Word) (s : State) : Out :=
  complete (.ori rd rs1 imm) s (s.opX rd rs1 (fun a => a ||| imm))

/-- ANDI (R176): and immediate. -/
def execAndi (rd rs1 : RegIdx) (imm : Word) (s : State) : Out :=
  complete (.andi rd rs1 imm) s (s.opX rd rs1 (fun a => a &&& imm))

/-- SLLI (R177): shift left logical immediate. -/
def execSlli (rd rs1 : RegIdx) (shamt : BitVec 5) (s : State) : Out :=
  complete (.slli rd rs1 shamt) s (s.opX rd rs1 (fun a => shl a shamt))

/-- SRLI (R178): shift right logical immediate. -/
def execSrli (rd rs1 : RegIdx) (shamt : BitVec 5) (s : State) : Out :=
  complete (.srli rd rs1 shamt) s (s.opX rd rs1 (fun a => shrU a shamt))

/-- SRAI (R179): shift right arithmetic immediate. -/
def execSrai (rd rs1 : RegIdx) (shamt : BitVec 5) (s : State) : Out :=
  complete (.srai rd rs1 shamt) s (s.opX rd rs1 (fun a => shrS a shamt))

/-- ADD (R161): add. -/
def execAdd (rd rs1 rs2 : RegIdx) (s : State) : Out :=
  complete (.add rd rs1 rs2) s (s.opXX rd rs1 rs2 (fun a b => a + b))

/-- SUB (R162): subtract. -/
def execSub (rd rs1 rs2 : RegIdx) (s : State) : Out :=
  complete (.sub rd rs1 rs2) s (s.opXX rd rs1 rs2 (fun a b => a - b))

/-- SLL (R163): shift left logical. -/
def execSll (rd rs1 rs2 : RegIdx) (s : State) : Out :=
  complete (.sll rd rs1 rs2) s (s.opXX rd rs1 rs2 (fun a b => shl a (amount b)))

/-- SLT (R164): set if less than, signed. -/
def execSlt (rd rs1 rs2 : RegIdx) (s : State) : Out :=
  complete (.slt rd rs1 rs2) s (s.opXX rd rs1 rs2 (fun a b => boolWord (ltS a b)))

/-- SLTU (R165): set if less than, unsigned. -/
def execSltu (rd rs1 rs2 : RegIdx) (s : State) : Out :=
  complete (.sltu rd rs1 rs2) s (s.opXX rd rs1 rs2 (fun a b => boolWord (ltU a b)))

/-- XOR (R166): bitwise exclusive or. -/
def execXor (rd rs1 rs2 : RegIdx) (s : State) : Out :=
  complete (.xor rd rs1 rs2) s (s.opXX rd rs1 rs2 (fun a b => a ^^^ b))

/-- SRL (R167): shift right logical. -/
def execSrl (rd rs1 rs2 : RegIdx) (s : State) : Out :=
  complete (.srl rd rs1 rs2) s (s.opXX rd rs1 rs2 (fun a b => shrU a (amount b)))

/-- SRA (R168): shift right arithmetic. -/
def execSra (rd rs1 rs2 : RegIdx) (s : State) : Out :=
  complete (.sra rd rs1 rs2) s (s.opXX rd rs1 rs2 (fun a b => shrS a (amount b)))

/-- OR (R169): bitwise or. -/
def execOr (rd rs1 rs2 : RegIdx) (s : State) : Out :=
  complete (.or rd rs1 rs2) s (s.opXX rd rs1 rs2 (fun a b => a ||| b))

/-- AND (R170): bitwise and. -/
def execAnd (rd rs1 rs2 : RegIdx) (s : State) : Out :=
  complete (.and rd rs1 rs2) s (s.opXX rd rs1 rs2 (fun a b => a &&& b))

end Sys2Proof.Machine
end

