-- ==== Sys2Proof/Machine/BitManip.lean ====
section
/-! DEFINITION. Bit manipulation (46_bitmanip.md R340 to R359). -/

namespace Sys2Proof.Machine

/-- The index of the highest set bit (R344). -/
def highestSet (a : Word) : Option Nat := (List.range 32).reverse.find? fun k => a.getLsbD k
/-- The index of the lowest set bit (R345). -/
def lowestSet (a : Word) : Option Nat := (List.range 32).find? fun k => a.getLsbD k

/-- CLZ's result (R344). -/
def countLeading (a : Word) : Word :=
  match highestSet a with
  | none => 32
  | some k => BitVec.ofNat 32 (31 - k)

/-- CTZ's result (R345). -/
def countTrailing (a : Word) : Word :=
  match lowestSet a with
  | none => 32
  | some k => BitVec.ofNat 32 k

/-- CPOP's result (R346): the number of k in 0 .. 31 with a[k] = 1. -/
def countSet (a : Word) : Word := BitVec.ofNat 32 ((List.range 32).countP fun k => a.getLsbD k)

/-- A rotation left by `n` (R354). -/
def rotateLeft (a : Word) (n : BitVec 5) : Word := (a <<< n.toNat) ||| (a >>> ((32 - n.toNat) % 32))
/-- A rotation right by `n` (R355, R356). -/
def rotateRight (a : Word) (n : BitVec 5) : Word := (a >>> n.toNat) ||| (a <<< ((32 - n.toNat) % 32))

/-- ORC.B's result (R357). -/
def orCombine (a : Word) : Word :=
  let f : Byte → Byte := fun v => if v = 0#8 then 0x00 else 0xFF
  wordOfBytes (f (byteOf a 0)) (f (byteOf a 1)) (f (byteOf a 2)) (f (byteOf a 3))

/-- REV8's result (R358). -/
def reverseBytes (a : Word) : Word := wordOfBytes (byteOf a 3) (byteOf a 2) (byteOf a 1) (byteOf a 0)

/-- ANDN (R341): AND with inverted operand. -/
def execAndn (rd rs1 rs2 : RegIdx) (s : State) : Out :=
  complete (.andn rd rs1 rs2) s (s.opXX rd rs1 rs2 (fun a b => a &&& ~~~b))

/-- ORN (R342): OR with inverted operand. -/
def execOrn (rd rs1 rs2 : RegIdx) (s : State) : Out :=
  complete (.orn rd rs1 rs2) s (s.opXX rd rs1 rs2 (fun a b => a ||| ~~~b))

/-- XNOR (R343): exclusive NOR. -/
def execXnor (rd rs1 rs2 : RegIdx) (s : State) : Out :=
  complete (.xnor rd rs1 rs2) s (s.opXX rd rs1 rs2 (fun a b => ~~~(a ^^^ b)))

/-- MIN (R347): signed minimum. -/
def execMin (rd rs1 rs2 : RegIdx) (s : State) : Out :=
  complete (.min rd rs1 rs2) s (s.opXX rd rs1 rs2 (fun a b => if ltS a b then a else b))

/-- MAX (R348): signed maximum. -/
def execMax (rd rs1 rs2 : RegIdx) (s : State) : Out :=
  complete (.max rd rs1 rs2) s (s.opXX rd rs1 rs2 (fun a b => if ltS a b then b else a))

/-- MINU (R349): unsigned minimum. -/
def execMinu (rd rs1 rs2 : RegIdx) (s : State) : Out :=
  complete (.minu rd rs1 rs2) s (s.opXX rd rs1 rs2 (fun a b => if ltU a b then a else b))

/-- MAXU (R350): unsigned maximum. -/
def execMaxu (rd rs1 rs2 : RegIdx) (s : State) : Out :=
  complete (.maxu rd rs1 rs2) s (s.opXX rd rs1 rs2 (fun a b => if ltU a b then b else a))

/-- ROL (R354): rotate left. -/
def execRol (rd rs1 rs2 : RegIdx) (s : State) : Out :=
  complete (.rol rd rs1 rs2) s (s.opXX rd rs1 rs2 (fun a b => rotateLeft a (amount b)))

/-- ROR (R355): rotate right. -/
def execRor (rd rs1 rs2 : RegIdx) (s : State) : Out :=
  complete (.ror rd rs1 rs2) s (s.opXX rd rs1 rs2 (fun a b => rotateRight a (amount b)))

/-- CLZ (R344): count leading zeros. -/
def execClz (rd rs1 : RegIdx) (s : State) : Out :=
  complete (.clz rd rs1) s (s.opX rd rs1 countLeading)

/-- CTZ (R345): count trailing zeros. -/
def execCtz (rd rs1 : RegIdx) (s : State) : Out :=
  complete (.ctz rd rs1) s (s.opX rd rs1 countTrailing)

/-- CPOP (R346): count set bits. -/
def execCpop (rd rs1 : RegIdx) (s : State) : Out :=
  complete (.cpop rd rs1) s (s.opX rd rs1 countSet)

/-- SEXT.B (R351): sign-extend byte. -/
def execSextB (rd rs1 : RegIdx) (s : State) : Out :=
  complete (.sextB rd rs1) s (s.opX rd rs1 (sext 8))

/-- SEXT.H (R352): sign-extend halfword. -/
def execSextH (rd rs1 : RegIdx) (s : State) : Out :=
  complete (.sextH rd rs1) s (s.opX rd rs1 (sext 16))

/-- ZEXT.H (R353): zero-extend halfword; rs2 is not examined. -/
def execZextH (rd rs1 rs2 : RegIdx) (s : State) : Out :=
  complete (.zextH rd rs1 rs2) s (s.opX rd rs1 (zext 16))

/-- RORI (R356): rotate right by immediate. -/
def execRori (rd rs1 : RegIdx) (shamt : BitVec 5) (s : State) : Out :=
  complete (.rori rd rs1 shamt) s (s.opX rd rs1 (fun a => rotateRight a shamt))

/-- ORC.B (R357): OR-combine each byte; imm[4:0] is not examined. -/
def execOrcB (rd rs1 : RegIdx) (lo : BitVec 5) (s : State) : Out :=
  complete (.orcB rd rs1 lo) s (s.opX rd rs1 orCombine)

/-- REV8 (R358): reverse byte order; imm[4:0] is not examined. -/
def execRev8 (rd rs1 : RegIdx) (lo : BitVec 5) (s : State) : Out :=
  complete (.rev8 rd rs1 lo) s (s.opX rd rs1 reverseBytes)

end Sys2Proof.Machine
end

