-- ==== Sys2Proof/Machine/Control.lean ====
section
/-! DEFINITION. Branches and jumps (41_control_flow.md R200 to R210). No target is checked here: a bad one stops the next fetch. -/

namespace Sys2Proof.Machine

/-- BEQ (R201): branch if equal. -/
def execBeq (rs1 rs2 : RegIdx) (imm : Word) (s : State) : Out :=
  complete (.beq rs1 rs2 imm) s (s.branch rs1 rs2 imm (fun a b => a == b))

/-- BNE (R202): branch if not equal. -/
def execBne (rs1 rs2 : RegIdx) (imm : Word) (s : State) : Out :=
  complete (.bne rs1 rs2 imm) s (s.branch rs1 rs2 imm (fun a b => a != b))

/-- BLT (R203): branch if less than, signed. -/
def execBlt (rs1 rs2 : RegIdx) (imm : Word) (s : State) : Out :=
  complete (.blt rs1 rs2 imm) s (s.branch rs1 rs2 imm ltS)

/-- BGE (R204): branch if greater than or equal, signed. -/
def execBge (rs1 rs2 : RegIdx) (imm : Word) (s : State) : Out :=
  complete (.bge rs1 rs2 imm) s (s.branch rs1 rs2 imm (fun a b => !ltS a b))

/-- BLTU (R205): branch if less than, unsigned. -/
def execBltu (rs1 rs2 : RegIdx) (imm : Word) (s : State) : Out :=
  complete (.bltu rs1 rs2 imm) s (s.branch rs1 rs2 imm ltU)

/-- BGEU (R206): branch if greater than or equal, unsigned. -/
def execBgeu (rs1 rs2 : RegIdx) (imm : Word) (s : State) : Out :=
  complete (.bgeu rs1 rs2 imm) s (s.branch rs1 rs2 imm (fun a b => !ltU a b))

/-- JAL (R207): jump and link. -/
def execJal (rd : RegIdx) (imm : Word) (s : State) : Out :=
  complete (.jal rd imm) s (.ok ((s.writeX rd (s.pc + 4)).jump (s.pc + imm)))

/-- The target of JALR: "clears bit 0 of the computed target" and no other (R208, C2). -/
def jalrTarget (base imm : Word) : Word := (base + imm) &&& 0xFFFFFFFE

/-- JALR (R208): jump and link register; funct3 is not examined (R121). -/
def execJalr (rd : RegIdx) (funct3 : BitVec 3) (rs1 : RegIdx) (imm : Word) (s : State) : Out :=
  complete (.jalr rd funct3 rs1 imm) s (do
    let base ← s.readX rs1
    .ok ((s.writeX rd (s.pc + 4)).jump (jalrTarget base imm)))

end Sys2Proof.Machine
end

