-- ==== Sys2Proof/Machine/FloatOps.lean ====
section
/-! DEFINITION. IEEE-754 binary32 arithmetic on bit patterns (00_scope.md R16, 45_float.md R281 to R283), computed on exact
integers and rounded once.

Every finite value is a multiple of 2^-149, the smallest subnormal. `scaled a` is `val(a)` in units of 2^-149, an
exact integer. Sums, products, quotients and square roots are taken exactly in these units, as a fraction of naturals
or as the root of a natural, and `roundFrac` or `roundSqrt` rounds them once to binary32 with gradual underflow (D28). -/

namespace Sys2Proof.Machine

/-! ## Fields and classes (R16) -/

/-- Sign bit 31. -/
def fSign (a : Word) : Bool := a.getLsbD 31
/-- Exponent bits 30:23. -/
def fExp (a : Word) : Nat := (a.extractLsb' 23 8).toNat
/-- Fraction bits 22:0. -/
def fFrac (a : Word) : Nat := (a.extractLsb' 0 23).toNat

/-- `isNaN(a)`: exponent all ones, fraction non-zero. -/
def isNaN (a : Word) : Bool := fExp a == 255 && fFrac a != 0
/-- ±∞. -/
def isInf (a : Word) : Bool := fExp a == 255 && fFrac a == 0
/-- ±0. -/
def isZero (a : Word) : Bool := fExp a == 0 && fFrac a == 0

/-- A zero of the given sign. -/
def zeroOf (sign : Bool) : Word := if sign then 0x80000000 else 0x00000000
/-- An infinity of the given sign. -/
def infOf (sign : Bool) : Word := if sign then 0xFF800000 else 0x7F800000
/-- The sign bit flipped, zeros, infinities and NaNs included (45_float.md §3). -/
def fNeg (a : Word) : Word := a ^^^ 0x80000000

/-- The pattern of a NaN. -/
def nanWord (n : Config.NanBits) : Word :=
  place (BitVec.ofBool n.sign) 31 ||| place (0xFF#8) 23 ||| place (BitVec.ofNat 23 (n.frac.val + 1)) 0

/-- `|val(a)|` in units of 2^-149, for a that is no NaN. ±∞ gets 2^277 by the same formula, above every finite value. -/
def scaledMag (a : Word) : Nat :=
  if fExp a = 0 then fFrac a else (2 ^ 23 + fFrac a) * 2 ^ (fExp a - 1)

/-- `val(a)` in units of 2^-149, for a that is no NaN. -/
def scaled (a : Word) : Int := if fSign a then -(scaledMag a : Int) else scaledMag a

/-! ## Rounding (R16, R283) -/

/-- Where an exact magnitude lies between two neighbours: on the lower one, below, at or above the middle. -/
inductive Rest where
  | exact
  | below
  | half
  | above
  deriving DecidableEq, Repr

/-- The rest of a division by `d`: `2·r` against `d`. -/
def restOf (r d : Nat) : Rest :=
  if r = 0 then .exact else if 2 * r < d then .below else if 2 * r = d then .half else .above

/-- Whether the magnitude goes to its upper neighbour. `odd` says that the lower neighbour is odd. -/
def roundsUp (m : RoundMode) (sign odd : Bool) (rest : Rest) : Bool :=
  match m with
  | .rne =>
    match rest with
    | .exact => false
    | .below => false
    | .half => odd
    | .above => true
  | .rtz => false
  | .rdn => sign && rest != .exact
  | .rup => !sign && rest != .exact

/-- The result of an overflow (R283): ∞ or the largest finite magnitude, by mode and sign. -/
def overflowOf (m : RoundMode) (sign : Bool) : Word :=
  match m with
  | .rne => infOf sign
  | .rtz => if sign then 0xFF7FFFFF else 0x7F7FFFFF
  | .rdn => if sign then infOf true else 0x7F7FFFFF
  | .rup => if sign then 0xFF7FFFFF else infOf false

/-- A pattern from a sign and a magnitude in the patterns' own order (bits 30:0), or an overflow where the magnitude
reaches that of ∞. -/
def packMag (m : RoundMode) (sign : Bool) (mag : Nat) : Word :=
  if 0x7F800000 ≤ mag then overflowOf m sign else place (BitVec.ofBool sign) 31 ||| BitVec.ofNat 32 mag

/-- The exponent of the spacing of binary32 at a magnitude whose whole part is `w` units: 0 for the subnormals and the
first normal binade, and one more per binade (gradual underflow, D28). -/
def spacing (w : Nat) : Nat := w.log2 - 23

/-- `round_m` of the exact value (-1)^sign · n/d · 2^-149, d > 0 (R16). With q the spacing, t multiples of 2^q units lie
at or below it; q · 2^23 + t is their pattern. -/
def roundFrac (m : RoundMode) (sign : Bool) (n d : Nat) : Word :=
  let q := spacing (n / d)
  let t := n / (d * 2 ^ q)
  let up := roundsUp m sign (t % 2 == 1) (restOf (n % (d * 2 ^ q)) (d * 2 ^ q))
  packMag m sign (q * 2 ^ 23 + if up then t + 1 else t)

/-- The floor of the square root of n, for n < 4^bits, one result bit at a time. -/
def isqrtFrom (n : Nat) : Nat → Nat → Nat
  | 0, acc => acc
  | b + 1, acc => isqrtFrom n b (if (acc + 2 ^ b) * (acc + 2 ^ b) ≤ n then acc + 2 ^ b else acc)

/-- The floor of the square root of n < 4^214; the largest argument below is under 2^426. -/
def isqrt (n : Nat) : Nat := isqrtFrom n 214 0

/-- `round_m(√v)` where √v is in units of 2^-149 and positive: the floor in multiples of the spacing, and the rest by
comparing squares. -/
def roundSqrt (m : RoundMode) (v : Nat) : Word :=
  let q := spacing (isqrt v)
  let t := isqrt v / 2 ^ q
  let lower := t * 2 ^ q
  let rest :=
    if lower * lower = v then Rest.exact
    else if 4 * v < ((2 * t + 1) * 2 ^ q) * ((2 * t + 1) * 2 ^ q) then .below
    else if 4 * v = ((2 * t + 1) * 2 ^ q) * ((2 * t + 1) * 2 ^ q) then .half
    else .above
  packMag m false (q * 2 ^ 23 + if roundsUp m false (t % 2 == 1) rest then t + 1 else t)

/-- The sign of an exact zero sum of two terms with these signs (R283): the common sign, else + except under RDN. -/
def zeroSumSign (m : RoundMode) (sa sb : Bool) : Bool := if sa = sb then sa else m = .rdn

/-- `round_m` of the exact sum (a + b)/d in units of 2^-149, with the signs of the terms for a zero sum. -/
def roundSum (m : RoundMode) (sa sb : Bool) (sum : Int) (d : Nat) : Word :=
  if sum = 0 then zeroOf (zeroSumSign m sa sb) else roundFrac m (decide (sum < 0)) sum.natAbs d

/-! ## Operations; `none` is a NaN result (R281) -/

/-- The IEEE sum (R284). -/
def addResult (m : RoundMode) (a b : Word) : Option Word :=
  if isNaN a || isNaN b then none
  else if isInf a && isInf b then (if fSign a = fSign b then some a else none)
  else if isInf a then some a
  else if isInf b then some b
  else some (roundSum m (fSign a) (fSign b) (scaled a + scaled b) 1)

/-- The IEEE product (R286). -/
def mulResult (m : RoundMode) (a b : Word) : Option Word :=
  let sign := fSign a != fSign b
  if isNaN a || isNaN b then none
  else if (isInf a && isZero b) || (isZero a && isInf b) then none
  else if isInf a || isInf b then some (infOf sign)
  else some (roundFrac m sign (scaledMag a * scaledMag b) (2 ^ 149))

/-- The IEEE quotient (R287). -/
def divResult (m : RoundMode) (a b : Word) : Option Word :=
  let sign := fSign a != fSign b
  if isNaN a || isNaN b then none
  else if (isInf a && isInf b) || (isZero a && isZero b) then none
  else if isInf a || isZero b then some (infOf sign)
  else if isInf b then some (zeroOf sign)
  else some (roundFrac m sign (scaledMag a * 2 ^ 149) (scaledMag b))

/-- The IEEE square root (R288). -/
def sqrtResult (m : RoundMode) (a : Word) : Option Word :=
  if isNaN a then none
  else if isZero a then some a
  else if fSign a then none
  else if isInf a then some a
  else some (roundSqrt m (scaledMag a * 2 ^ 149))

/-- `fma_m(p, q, r)`: the product and the addend summed exactly and rounded once (45_float.md §3). -/
def fmaResult (m : RoundMode) (p q r : Word) : Option Word :=
  let sign := fSign p != fSign q
  if isNaN p || isNaN q || isNaN r then none
  else if (isInf p && isZero q) || (isZero p && isInf q) then none
  else if isInf p || isInf q then (if isInf r && fSign r != sign then none else some (infOf sign))
  else if isInf r then some r
  else some (roundSum m sign (fSign r) (scaled p * scaled q + scaled r * 2 ^ 149) (2 ^ 149))

/-- The result, or `nanResult(op, operands)` (R281). -/
def orNaN (op : Config.FpOp) (operands : List Word) (r : Option Word) : Word :=
  r.getD (nanWord (Config.nanResult op operands))

/-- FADD.S's result (R284). -/
def fadd (m : RoundMode) (a b : Word) : Word := orNaN .fadd [a, b] (addResult m a b)
/-- FSUB.S's result (R285): the sum with b negated. -/
def fsub (m : RoundMode) (a b : Word) : Word := orNaN .fsub [a, b] (addResult m a (fNeg b))
/-- FMUL.S's result (R286). -/
def fmul (m : RoundMode) (a b : Word) : Word := orNaN .fmul [a, b] (mulResult m a b)
/-- FDIV.S's result (R287). -/
def fdiv (m : RoundMode) (a b : Word) : Word := orNaN .fdiv [a, b] (divResult m a b)
/-- FSQRT.S's result (R288). -/
def fsqrt (m : RoundMode) (a : Word) : Word := orNaN .fsqrt [a] (sqrtResult m a)
/-- FMADD.S's result (R289). -/
def fmadd (m : RoundMode) (a b c : Word) : Word := orNaN .fmadd [a, b, c] (fmaResult m a b c)
/-- FMSUB.S's result (R290). -/
def fmsub (m : RoundMode) (a b c : Word) : Word := orNaN .fmsub [a, b, c] (fmaResult m a b (fNeg c))
/-- FNMSUB.S's result (R291). -/
def fnmsub (m : RoundMode) (a b c : Word) : Word := orNaN .fnmsub [a, b, c] (fmaResult m (fNeg a) b c)
/-- FNMADD.S's result (R292). -/
def fnmadd (m : RoundMode) (a b c : Word) : Word := orNaN .fnmadd [a, b, c] (fmaResult m (fNeg a) b (fNeg c))

/-! ## Sign injection (R293 to R295) -/

/-- A sign bit over the magnitude of `a`. -/
def withSign (sign : Bool) (a : Word) : Word := place (BitVec.ofBool sign) 31 ||| place (a.extractLsb' 0 31) 0

/-- FSGNJ.S's result (R293). -/
def fsgnj (a b : Word) : Word := withSign (fSign b) a
/-- FSGNJN.S's result (R294). -/
def fsgnjn (a b : Word) : Word := withSign (!fSign b) a
/-- FSGNJX.S's result (R295, C3). -/
def fsgnjx (a b : Word) : Word := withSign (fSign a != fSign b) a

/-! ## Comparison, minimum and maximum (R296, R297, R304 to R306) -/

/-- `val(a) = val(b)`; false if either is a NaN. -/
def fEq (a b : Word) : Bool := !isNaN a && !isNaN b && decide (scaled a = scaled b)
/-- `val(a) < val(b)`; false if either is a NaN. -/
def fLt (a b : Word) : Bool := !isNaN a && !isNaN b && decide (scaled a < scaled b)
/-- `val(a) <= val(b)`; false if either is a NaN. -/
def fLe (a b : Word) : Bool := !isNaN a && !isNaN b && decide (scaled a ≤ scaled b)

/-- The pair is {+0, -0}. -/
def oppositeZeros (a b : Word) : Bool := isZero a && isZero b && fSign a != fSign b

/-- FMIN.S's result (R296). -/
def fmin (a b : Word) : Word :=
  if isNaN a && isNaN b then nanWord (Config.fminmaxBothNaN .fmin a b)
  else if isNaN a then b
  else if isNaN b then a
  else if oppositeZeros a b then zeroOf (Config.fminmaxZero .fmin a b)
  else if scaled a ≤ scaled b then a
  else b

/-- FMAX.S's result (R297). -/
def fmax (a b : Word) : Word :=
  if isNaN a && isNaN b then nanWord (Config.fminmaxBothNaN .fmax a b)
  else if isNaN a then b
  else if isNaN b then a
  else if oppositeZeros a b then zeroOf (Config.fminmaxZero .fmax a b)
  else if scaled b ≤ scaled a then a
  else b

/-! ## Conversions (R298 to R301) -/

/-- Whether a magnitude rounds to the next integer, by the tie rule (D24). -/
def tieRoundsUp (tie : Config.TieBreak) (odd : Bool) (rest : Rest) : Bool :=
  match rest with
  | .exact => false
  | .below => false
  | .half =>
    match tie with
    | .tiesToEven => odd
    | .tiesAway => true
  | .above => true

/-- `rint(val(a))`: to the nearest integer, a tie going the way `fcvtTieBreak` says. ±∞ gives ±2^128, which `clamp`
takes to the bounds. -/
def rint (tie : Config.TieBreak) (a : Word) : Int :=
  let t := scaledMag a / 2 ^ 149
  let up := tieRoundsUp tie (t % 2 == 1) (restOf (scaledMag a % 2 ^ 149) (2 ^ 149))
  let n : Nat := if up then t + 1 else t
  if fSign a then -(n : Int) else n

/-- `clamp(lo, hi, n)`. -/
def clamp (lo hi n : Int) : Int := min hi (max lo n)

/-- FCVT.W.S's result (R298). -/
def fcvtToW (p : Config.Params) (a : Word) : Word :=
  if isNaN a then
    match p.fcvtNaNW with
    | .lower => 0x80000000
    | .upper => 0x7FFFFFFF
  else BitVec.ofInt 32 (clamp (-2 ^ 31) (2 ^ 31 - 1) (rint p.fcvtTieBreak a))

/-- FCVT.WU.S's result (R299). -/
def fcvtToWU (p : Config.Params) (a : Word) : Word :=
  if isNaN a then
    match p.fcvtNaNWU with
    | .lower => 0x00000000
    | .upper => 0xFFFFFFFF
  else BitVec.ofInt 32 (clamp 0 (2 ^ 32 - 1) (rint p.fcvtTieBreak a))

/-- `round_RNE(n)` of an integer; 0 gives +0 (R300, R301, D24). -/
def ofInteger (n : Int) : Word := roundFrac .rne (decide (n < 0)) (n.natAbs * 2 ^ 149) 1

/-- FCVT.S.W's result (R300). -/
def fcvtOfW (v : Word) : Word := ofInteger v.toInt
/-- FCVT.S.WU's result (R301). -/
def fcvtOfWU (v : Word) : Word := ofInteger v.toNat

/-! ## Classification (R307) -/

/-- The bit FCLASS.S sets. -/
def classBit (a : Word) : Nat :=
  if isNaN a then (if a.getLsbD 22 then 9 else 8)
  else if isInf a then (if fSign a then 0 else 7)
  else if isZero a then (if fSign a then 3 else 4)
  else if fExp a = 0 then (if fSign a then 2 else 5)
  else (if fSign a then 1 else 6)

/-- FCLASS.S's result, one-hot (R307). -/
def fclass (a : Word) : Word := 1#32 <<< classBit a

end Sys2Proof.Machine
end

