-- ==== Sys2Proof/Machine/Float.lean ====
section
/-! DEFINITION. The float instructions (45_float.md R280 to R308) over the arithmetic of FloatOps. No flag is kept and nothing faults
but a reserved rounding mode and an `Unwritten` source (R282). -/

namespace Sys2Proof.Machine

/-- FADD.S (R284): float add. -/
def execFaddS (rd rs1 rs2 : RegIdx) (rm : BitVec 3) (s : State) : Out :=
  complete (.faddS rd rs1 rs2 rm) s (s.opFFrm rd rs1 rs2 rm fadd)

/-- FSUB.S (R285): float subtract. -/
def execFsubS (rd rs1 rs2 : RegIdx) (rm : BitVec 3) (s : State) : Out :=
  complete (.fsubS rd rs1 rs2 rm) s (s.opFFrm rd rs1 rs2 rm fsub)

/-- FMUL.S (R286): float multiply. -/
def execFmulS (rd rs1 rs2 : RegIdx) (rm : BitVec 3) (s : State) : Out :=
  complete (.fmulS rd rs1 rs2 rm) s (s.opFFrm rd rs1 rs2 rm fmul)

/-- FDIV.S (R287): float divide. -/
def execFdivS (rd rs1 rs2 : RegIdx) (rm : BitVec 3) (s : State) : Out :=
  complete (.fdivS rd rs1 rs2 rm) s (s.opFFrm rd rs1 rs2 rm fdiv)

/-- FSQRT.S (R288): float square root; rs2 is not examined. -/
def execFsqrtS (rd rs1 rs2 : RegIdx) (rm : BitVec 3) (s : State) : Out :=
  complete (.fsqrtS rd rs1 rs2 rm) s (s.opFrm rd rs1 rm fsqrt)

/-- FMADD.S (R289): fused multiply-add; fmt is not examined (R124). -/
def execFmaddS (rd rs1 rs2 rs3 : RegIdx) (rm : BitVec 3) (fmt : BitVec 2) (s : State) : Out :=
  complete (.fmaddS rd rs1 rs2 rs3 rm fmt) s (s.opFFFrm rd rs1 rs2 rs3 rm fmadd)

/-- FMSUB.S (R290): fused multiply-subtract; fmt is not examined (R124). -/
def execFmsubS (rd rs1 rs2 rs3 : RegIdx) (rm : BitVec 3) (fmt : BitVec 2) (s : State) : Out :=
  complete (.fmsubS rd rs1 rs2 rs3 rm fmt) s (s.opFFFrm rd rs1 rs2 rs3 rm fmsub)

/-- FNMSUB.S (R291): negated fused multiply-subtract; fmt is not examined (R124). -/
def execFnmsubS (rd rs1 rs2 rs3 : RegIdx) (rm : BitVec 3) (fmt : BitVec 2) (s : State) : Out :=
  complete (.fnmsubS rd rs1 rs2 rs3 rm fmt) s (s.opFFFrm rd rs1 rs2 rs3 rm fnmsub)

/-- FNMADD.S (R292): negated fused multiply-add; fmt is not examined (R124). -/
def execFnmaddS (rd rs1 rs2 rs3 : RegIdx) (rm : BitVec 3) (fmt : BitVec 2) (s : State) : Out :=
  complete (.fnmaddS rd rs1 rs2 rs3 rm fmt) s (s.opFFFrm rd rs1 rs2 rs3 rm fnmadd)

/-- FSGNJ.S (R293): sign inject. -/
def execFsgnjS (rd rs1 rs2 : RegIdx) (s : State) : Out :=
  complete (.fsgnjS rd rs1 rs2) s (s.opFF rd rs1 rs2 fsgnj)

/-- FSGNJN.S (R294): sign inject, negated. -/
def execFsgnjnS (rd rs1 rs2 : RegIdx) (s : State) : Out :=
  complete (.fsgnjnS rd rs1 rs2) s (s.opFF rd rs1 rs2 fsgnjn)

/-- FSGNJX.S (R295): sign inject, XOR. -/
def execFsgnjxS (rd rs1 rs2 : RegIdx) (s : State) : Out :=
  complete (.fsgnjxS rd rs1 rs2) s (s.opFF rd rs1 rs2 fsgnjx)

/-- FMIN.S (R296): float minimum. -/
def execFminS (rd rs1 rs2 : RegIdx) (s : State) : Out :=
  complete (.fminS rd rs1 rs2) s (s.opFF rd rs1 rs2 fmin)

/-- FMAX.S (R297): float maximum. -/
def execFmaxS (rd rs1 rs2 : RegIdx) (s : State) : Out :=
  complete (.fmaxS rd rs1 rs2) s (s.opFF rd rs1 rs2 fmax)

/-- FCVT.W.S (R298): float to signed word; rm is ignored (C5). -/
def execFcvtWS (rd rs1 : RegIdx) (rm : BitVec 3) (s : State) : Out :=
  complete (.fcvtWS rd rs1 rm) s (s.opXF rd rs1 (fcvtToW s.params))

/-- FCVT.WU.S (R299): float to unsigned word; rm is ignored (C5). -/
def execFcvtWUS (rd rs1 : RegIdx) (rm : BitVec 3) (s : State) : Out :=
  complete (.fcvtWUS rd rs1 rm) s (s.opXF rd rs1 (fcvtToWU s.params))

/-- FCVT.S.W (R300): signed word to float; rm is ignored (C5). -/
def execFcvtSW (rd rs1 : RegIdx) (rm : BitVec 3) (s : State) : Out :=
  complete (.fcvtSW rd rs1 rm) s (s.opFX rd rs1 fcvtOfW)

/-- FCVT.S.WU (R301): unsigned word to float; rm is ignored (C5). -/
def execFcvtSWU (rd rs1 : RegIdx) (rm : BitVec 3) (s : State) : Out :=
  complete (.fcvtSWU rd rs1 rm) s (s.opFX rd rs1 fcvtOfWU)

/-- FMV.X.W (R302): move float bits to an integer register; rs2 is not examined. -/
def execFmvXW (rd rs1 rs2 : RegIdx) (s : State) : Out :=
  complete (.fmvXW rd rs1 rs2) s (s.opXF rd rs1 fun a => a)

/-- FMV.W.X (R303): move integer bits to a float register; rs2 is not examined. -/
def execFmvWX (rd rs1 rs2 : RegIdx) (s : State) : Out :=
  complete (.fmvWX rd rs1 rs2) s (s.opFX rd rs1 fun a => a)

/-- FEQ.S (R304): float equal. -/
def execFeqS (rd rs1 rs2 : RegIdx) (s : State) : Out :=
  complete (.feqS rd rs1 rs2) s (s.opXFF rd rs1 rs2 fun a b => boolWord (fEq a b))

/-- FLT.S (R305): float less than. -/
def execFltS (rd rs1 rs2 : RegIdx) (s : State) : Out :=
  complete (.fltS rd rs1 rs2) s (s.opXFF rd rs1 rs2 fun a b => boolWord (fLt a b))

/-- FLE.S (R306): float less than or equal. -/
def execFleS (rd rs1 rs2 : RegIdx) (s : State) : Out :=
  complete (.fleS rd rs1 rs2) s (s.opXFF rd rs1 rs2 fun a b => boolWord (fLe a b))

/-- FCLASS.S (R307): float classify; rs2 is not examined. -/
def execFclassS (rd rs1 rs2 : RegIdx) (s : State) : Out :=
  complete (.fclassS rd rs1 rs2) s (s.opXF rd rs1 fclass)

end Sys2Proof.Machine
end

