-- ==== Sys2Proof/Machine/LoadStore.lean ====
section
/-! DEFINITION. Loads and stores (42_load_store.md R220 to R230). -/

namespace Sys2Proof.Machine

/-- LB (R221): load byte, sign-extended. -/
def execLb (rd rs1 : RegIdx) (imm : Word) (s : State) : Out :=
  complete (.lb rd rs1 imm) s (s.load rd rs1 imm 1 (fun m a => sext 8 (m.read8 a)))

/-- LH (R222): load halfword, sign-extended. -/
def execLh (rd rs1 : RegIdx) (imm : Word) (s : State) : Out :=
  complete (.lh rd rs1 imm) s (s.load rd rs1 imm 2 (fun m a => sext 16 (m.read16 a)))

/-- LW (R223): load word. -/
def execLw (rd rs1 : RegIdx) (imm : Word) (s : State) : Out :=
  complete (.lw rd rs1 imm) s (s.load rd rs1 imm 4 Memory.read32)

/-- LBU (R224): load byte, zero-extended. -/
def execLbu (rd rs1 : RegIdx) (imm : Word) (s : State) : Out :=
  complete (.lbu rd rs1 imm) s (s.load rd rs1 imm 1 Memory.read8)

/-- LHU (R225): load halfword, zero-extended. -/
def execLhu (rd rs1 : RegIdx) (imm : Word) (s : State) : Out :=
  complete (.lhu rd rs1 imm) s (s.load rd rs1 imm 2 Memory.read16)

/-- SB (R226): store byte. -/
def execSb (rs1 rs2 : RegIdx) (imm : Word) (s : State) : Out :=
  complete (.sb rs1 rs2 imm) s (s.store rs1 rs2 imm 1)

/-- SH (R227): store halfword. -/
def execSh (rs1 rs2 : RegIdx) (imm : Word) (s : State) : Out :=
  complete (.sh rs1 rs2 imm) s (s.store rs1 rs2 imm 2)

/-- SW (R228): store word. -/
def execSw (rs1 rs2 : RegIdx) (imm : Word) (s : State) : Out :=
  complete (.sw rs1 rs2 imm) s (s.store rs1 rs2 imm 4)

end Sys2Proof.Machine
end

