-- ==== Sys2Proof/Machine/MulDiv.lean ====
section
/-! DEFINITION. Multiply and divide (44_multiply_divide.md R260 to R269): exact integers, narrowed at the end. -/

namespace Sys2Proof.Machine

/-- MUL's result (R261). -/
def mulLow (a b : Word) : Word := BitVec.ofInt 32 (a.toInt * b.toInt)
/-- MULH's result (R262); `/` on integers with a positive divisor is the floor. -/
def mulHigh (a b : Word) : Word := BitVec.ofInt 32 (a.toInt * b.toInt / 2 ^ 32)
/-- MULHSU's result (R263). -/
def mulHighSU (a b : Word) : Word := BitVec.ofInt 32 (a.toInt * b.toNat / 2 ^ 32)
/-- MULHU's result (R264). -/
def mulHighU (a b : Word) : Word := BitVec.ofNat 32 (a.toNat * b.toNat / 2 ^ 32)

/-- DIV's result (R265). -/
def divS (a b : Word) : Word :=
  if b.toInt = 0 then 0xFFFFFFFF
  else if a.toInt = -2 ^ 31 ∧ b.toInt = -1 then 0x80000000
  else BitVec.ofInt 32 (a.toInt.tdiv b.toInt)

/-- DIVU's result (R266). -/
def divU (a b : Word) : Word := if b = 0#32 then 0xFFFFFFFF else BitVec.ofNat 32 (a.toNat / b.toNat)

/-- REM's result (R267). -/
def remS (a b : Word) : Word :=
  if b.toInt = 0 then a
  else if a.toInt = -2 ^ 31 ∧ b.toInt = -1 then 0
  else BitVec.ofInt 32 (a.toInt.tmod b.toInt)

/-- REMU's result (R268). -/
def remU (a b : Word) : Word := if b = 0#32 then a else BitVec.ofNat 32 (a.toNat % b.toNat)

/-- MUL (R261): multiply, low word. -/
def execMul (rd rs1 rs2 : RegIdx) (s : State) : Out :=
  complete (.mul rd rs1 rs2) s (s.opXX rd rs1 rs2 mulLow)

/-- MULH (R262): multiply, high word, signed × signed. -/
def execMulh (rd rs1 rs2 : RegIdx) (s : State) : Out :=
  complete (.mulh rd rs1 rs2) s (s.opXX rd rs1 rs2 mulHigh)

/-- MULHSU (R263): multiply, high word, signed × unsigned. -/
def execMulhsu (rd rs1 rs2 : RegIdx) (s : State) : Out :=
  complete (.mulhsu rd rs1 rs2) s (s.opXX rd rs1 rs2 mulHighSU)

/-- MULHU (R264): multiply, high word, unsigned × unsigned. -/
def execMulhu (rd rs1 rs2 : RegIdx) (s : State) : Out :=
  complete (.mulhu rd rs1 rs2) s (s.opXX rd rs1 rs2 mulHighU)

/-- DIV (R265): signed divide. -/
def execDiv (rd rs1 rs2 : RegIdx) (s : State) : Out :=
  complete (.div rd rs1 rs2) s (s.opXX rd rs1 rs2 divS)

/-- DIVU (R266): unsigned divide. -/
def execDivu (rd rs1 rs2 : RegIdx) (s : State) : Out :=
  complete (.divu rd rs1 rs2) s (s.opXX rd rs1 rs2 divU)

/-- REM (R267): signed remainder. -/
def execRem (rd rs1 rs2 : RegIdx) (s : State) : Out :=
  complete (.rem rd rs1 rs2) s (s.opXX rd rs1 rs2 remS)

/-- REMU (R268): unsigned remainder. -/
def execRemu (rd rs1 rs2 : RegIdx) (s : State) : Out :=
  complete (.remu rd rs1 rs2) s (s.opXX rd rs1 rs2 remU)

end Sys2Proof.Machine
end

