-- ==== Sys2Proof/Machine/System.lean ====
section
/-! DEFINITION. FENCE, ECALL and EBREAK (43_system.md R240 to R249). The environment-call handler is the one the spec fixes (R249). -/

namespace Sys2Proof.Machine

/-- a7 = x17, the call number (R241). -/
def regA7 : RegIdx := 17#5
/-- a0 = x10, the first argument and the place of the answer (R241). -/
def regA0 : RegIdx := 10#5
/-- a1 = x11, the buffer (R241). -/
def regA1 : RegIdx := 11#5
/-- a2 = x12, the length (R243, D16). -/
def regA2 : RegIdx := 12#5

/-- Exit (R242): `Halt(x[10])`. -/
def State.ecallExit (s : State) : Act := do
  let code ← s.readX regA0
  .ok (s.halt code)

/-- The buffer check of a write or read: a length of 0 is never out of range (R243, R244, D17). -/
def State.checkBuffer (s : State) (buf len : Word) : Except StopReason Unit :=
  if 0 < len.toNat ∧ ¬ s.InRange buf len.toNat then .error (.ecallOutOfRange buf len) else .ok ()

/-- What a write leaves (R243): the event logged, the host's draw in a0, the pc advanced. -/
def State.hostWrite (s : State) (bytes : List Byte) : State :=
  let r := Config.hostWriteResult s.hostDraws 1 bytes
  let t : State := { s with hostLog := s.hostLog ++ [HostEvent.write 1 bytes], hostDraws := s.hostDraws + 1 }
  (t.writeX regA0 r).advance

/-- The bytes the host answers a read of `n` with, at most `n` of them (R244, R245). -/
def hostBytes (draw n : Nat) : List Byte :=
  (List.range (Config.hostReadCount draw 0 n).val).map (Config.hostReadByte draw 0 n)

/-- What a read leaves (R244): the host's bytes at the buffer, the event logged, the host's draw in a0, the pc
advanced. -/
def State.hostRead (s : State) (buf : Word) (n : Nat) : State :=
  let bytes := hostBytes s.hostDraws n
  let r := Config.hostReadResult s.hostDraws 0 n
  let t : State := { s with
    mem := s.mem.writeBytes buf.toNat bytes
    hostLog := s.hostLog ++ [HostEvent.read 0 n bytes]
    hostDraws := s.hostDraws + 1 }
  (t.writeX regA0 r).advance

/-- Write (R243). -/
def State.ecallWrite (s : State) : Act := do
  let fd ← s.readX regA0
  let buf ← s.readX regA1
  let len ← s.readX regA2
  if fd ≠ 1#32 then .error (.unsupportedEcall 64#32 (some fd))
  else
    s.checkBuffer buf len
    .ok (s.hostWrite (s.mem.readBytes buf.toNat len.toNat))

/-- Read (R244). -/
def State.ecallRead (s : State) : Act := do
  let fd ← s.readX regA0
  let buf ← s.readX regA1
  let len ← s.readX regA2
  if fd ≠ 0#32 then .error (.unsupportedEcall 63#32 (some fd))
  else
    s.checkBuffer buf len
    .ok (s.hostRead buf len.toNat)

/-- The environment call by its number (R241, R246, R247). -/
def State.ecall (s : State) : Act := do
  let n ← s.readX regA7
  if n = 93#32 then s.ecallExit
  else if n = 64#32 then s.ecallWrite
  else if n = 63#32 then s.ecallRead
  else .error (.unsupportedEcall n none)

/-- FENCE (R240): a no-op that advances the pc and reads no register. -/
def execFence (rd : RegIdx) (funct3 : BitVec 3) (rs1 : RegIdx) (imm : Word) (s : State) : Out :=
  complete (.fence rd funct3 rs1 imm) s (.ok s.advance)

/-- ECALL (R241): environment call; funct3, rs1 and rd are not examined (R122). -/
def execEcall (rd : RegIdx) (funct3 : BitVec 3) (rs1 : RegIdx) (s : State) : Out :=
  complete (.ecall rd funct3 rs1) s (s.ecall)

/-- EBREAK (R248): raises Breakpoint, always. -/
def execEbreak (rd : RegIdx) (funct3 : BitVec 3) (rs1 : RegIdx) (s : State) : Out :=
  complete (.ebreak rd funct3 rs1) s (.error .breakpoint)

end Sys2Proof.Machine
end

