-- ==== Sys2Proof/Machine/Step.lean ====
section
/-! DEFINITION. The step (10_state.md R40 to R44): fetch, lookup, execute. -/

namespace Sys2Proof.Machine

/-- One step. It is enabled only while `run = Running` (R30, R40); a stop outcome of fetch or lookup is taken like any
other (R33). -/
def step (s : State) : Host.Outcome State Fault Refusal :=
  match s.run with
  | .halted _ => .fault .notRunning
  | .faulted _ => .fault .notRunning
  | .running =>
    match s.fetch with
    | .error reason => .next (s.raise reason none)
    | .ok w =>
      match decode w with
      | .error e => .next (s.raise (lookupReason e) (some w))
      | .ok i => exec i s

/-- The table's word stored little-endian where `step` fetches its next instruction (log entry 8): the loader's part of
R410 for one word. -/
def State.withFetchWord (s : State) (nbits w : Nat) : State := s.placeWord (BitVec.ofNat 32 (w % 2 ^ nbits))

end Sys2Proof.Machine
end

