-- ==== Sys2Proof/Safety.lean ====
section
/-! DEFINITION. What claims speak of: the invariant of the core's states, the registers all written, runs of a bounded
number of steps (70_reset_and_hazards.md R422, R423), and what a safe run is. -/

namespace Sys2Proof.Machine

/-- The invariant of the core's states: memory is in canonical form and holds no byte outside the buffer (20_memory.md
R60), cell 0 of the integer file is 0 (10_state.md R21, R22), and the parameters are legal (00_scope.md R11). -/
structure State.Inv (s : State) : Prop where
  memWf : s.mem.wf = true
  memInBuffer : ∀ a, s.params.memSize ≤ a → s.mem.read a = Memory.unlisted
  xZero : s.x[0] = .val 0#32
  paramsWf : s.params.wf

/-- Every register holds a value (10_state.md R22: after a write "the register holds a value, never Unwritten"). -/
def State.AllWritten (s : State) : Prop :=
  (∀ r, s.xCell r ≠ .unwritten) ∧ ∀ r, s.fCell r ≠ .unwritten

/-- The run has ended with a fault record (10_state.md R33). -/
def State.isFaulted (s : State) : Bool :=
  match s.run with
  | .faulted _ => true
  | .running => false
  | .halted _ => false

/-- The run after at most `n` steps: a state from which no step is enabled stays (10_state.md R30, R45; the caller's step
bound of 70_reset_and_hazards.md R423). -/
def runFor : Nat → State → State
  | 0, s => s
  | n + 1, s =>
    match step s with
    | .next t => runFor n t
    | .fault _ => s
    | .refused _ => s

/-- A safe run: no number of steps ends it Faulted. -/
def State.Safe (s : State) : Prop := ∀ n, (runFor n s).isFaulted = false

/-- The run ends Halted with this exit code (10_state.md R45). -/
def State.HaltsWith (s : State) (code : Int) : Prop := ∃ n, (runFor n s).run.exitCode = some code

end Sys2Proof.Machine

namespace Sys2Proof

/-! ## What an instruction may write, read off its operands -/

/-- The integer register an instruction's rule writes; ECALL's write and read answer in a0 (43_system.md R243, R244). -/
def Instr.destX : Instr → Option RegIdx
  | .lui rd _ => some rd
  | .auipc rd _ => some rd
  | .jal rd _ => some rd
  | .jalr rd _ _ _ => some rd
  | .beq _ _ _ => none
  | .bne _ _ _ => none
  | .blt _ _ _ => none
  | .bge _ _ _ => none
  | .bltu _ _ _ => none
  | .bgeu _ _ _ => none
  | .lb rd _ _ => some rd
  | .lh rd _ _ => some rd
  | .lw rd _ _ => some rd
  | .lbu rd _ _ => some rd
  | .lhu rd _ _ => some rd
  | .sb _ _ _ => none
  | .sh _ _ _ => none
  | .sw _ _ _ => none
  | .addi rd _ _ => some rd
  | .slti rd _ _ => some rd
  | .sltiu rd _ _ => some rd
  | .xori rd _ _ => some rd
  | .ori rd _ _ => some rd
  | .andi rd _ _ => some rd
  | .slli rd _ _ => some rd
  | .srli rd _ _ => some rd
  | .srai rd _ _ => some rd
  | .add rd _ _ => some rd
  | .sub rd _ _ => some rd
  | .sll rd _ _ => some rd
  | .slt rd _ _ => some rd
  | .sltu rd _ _ => some rd
  | .xor rd _ _ => some rd
  | .srl rd _ _ => some rd
  | .sra rd _ _ => some rd
  | .or rd _ _ => some rd
  | .and rd _ _ => some rd
  | .fence _ _ _ _ => none
  | .ecall _ _ _ => some Machine.regA0
  | .ebreak _ _ _ => none
  | .mul rd _ _ => some rd
  | .mulh rd _ _ => some rd
  | .mulhsu rd _ _ => some rd
  | .mulhu rd _ _ => some rd
  | .div rd _ _ => some rd
  | .divu rd _ _ => some rd
  | .rem rd _ _ => some rd
  | .remu rd _ _ => some rd
  | .faddS _ _ _ _ => none
  | .fsubS _ _ _ _ => none
  | .fmulS _ _ _ _ => none
  | .fdivS _ _ _ _ => none
  | .fsqrtS _ _ _ _ => none
  | .fmaddS _ _ _ _ _ _ => none
  | .fmsubS _ _ _ _ _ _ => none
  | .fnmsubS _ _ _ _ _ _ => none
  | .fnmaddS _ _ _ _ _ _ => none
  | .fsgnjS _ _ _ => none
  | .fsgnjnS _ _ _ => none
  | .fsgnjxS _ _ _ => none
  | .fminS _ _ _ => none
  | .fmaxS _ _ _ => none
  | .fcvtWS rd _ _ => some rd
  | .fcvtWUS rd _ _ => some rd
  | .fcvtSW _ _ _ => none
  | .fcvtSWU _ _ _ => none
  | .fmvXW rd _ _ => some rd
  | .fmvWX _ _ _ => none
  | .feqS rd _ _ => some rd
  | .fltS rd _ _ => some rd
  | .fleS rd _ _ => some rd
  | .fclassS rd _ _ => some rd
  | .andn rd _ _ => some rd
  | .orn rd _ _ => some rd
  | .xnor rd _ _ => some rd
  | .clz rd _ => some rd
  | .ctz rd _ => some rd
  | .cpop rd _ => some rd
  | .min rd _ _ => some rd
  | .max rd _ _ => some rd
  | .minu rd _ _ => some rd
  | .maxu rd _ _ => some rd
  | .sextB rd _ => some rd
  | .sextH rd _ => some rd
  | .zextH rd _ _ => some rd
  | .rol rd _ _ => some rd
  | .ror rd _ _ => some rd
  | .rori rd _ _ => some rd
  | .orcB rd _ _ => some rd
  | .rev8 rd _ _ => some rd

/-- The float register an instruction's rule writes (10_state.md R25). -/
def Instr.destF : Instr → Option RegIdx
  | .lui _ _ => none
  | .auipc _ _ => none
  | .jal _ _ => none
  | .jalr _ _ _ _ => none
  | .beq _ _ _ => none
  | .bne _ _ _ => none
  | .blt _ _ _ => none
  | .bge _ _ _ => none
  | .bltu _ _ _ => none
  | .bgeu _ _ _ => none
  | .lb _ _ _ => none
  | .lh _ _ _ => none
  | .lw _ _ _ => none
  | .lbu _ _ _ => none
  | .lhu _ _ _ => none
  | .sb _ _ _ => none
  | .sh _ _ _ => none
  | .sw _ _ _ => none
  | .addi _ _ _ => none
  | .slti _ _ _ => none
  | .sltiu _ _ _ => none
  | .xori _ _ _ => none
  | .ori _ _ _ => none
  | .andi _ _ _ => none
  | .slli _ _ _ => none
  | .srli _ _ _ => none
  | .srai _ _ _ => none
  | .add _ _ _ => none
  | .sub _ _ _ => none
  | .sll _ _ _ => none
  | .slt _ _ _ => none
  | .sltu _ _ _ => none
  | .xor _ _ _ => none
  | .srl _ _ _ => none
  | .sra _ _ _ => none
  | .or _ _ _ => none
  | .and _ _ _ => none
  | .fence _ _ _ _ => none
  | .ecall _ _ _ => none
  | .ebreak _ _ _ => none
  | .mul _ _ _ => none
  | .mulh _ _ _ => none
  | .mulhsu _ _ _ => none
  | .mulhu _ _ _ => none
  | .div _ _ _ => none
  | .divu _ _ _ => none
  | .rem _ _ _ => none
  | .remu _ _ _ => none
  | .faddS rd _ _ _ => some rd
  | .fsubS rd _ _ _ => some rd
  | .fmulS rd _ _ _ => some rd
  | .fdivS rd _ _ _ => some rd
  | .fsqrtS rd _ _ _ => some rd
  | .fmaddS rd _ _ _ _ _ => some rd
  | .fmsubS rd _ _ _ _ _ => some rd
  | .fnmsubS rd _ _ _ _ _ => some rd
  | .fnmaddS rd _ _ _ _ _ => some rd
  | .fsgnjS rd _ _ => some rd
  | .fsgnjnS rd _ _ => some rd
  | .fsgnjxS rd _ _ => some rd
  | .fminS rd _ _ => some rd
  | .fmaxS rd _ _ => some rd
  | .fcvtWS _ _ _ => none
  | .fcvtWUS _ _ _ => none
  | .fcvtSW rd _ _ => some rd
  | .fcvtSWU rd _ _ => some rd
  | .fmvXW _ _ _ => none
  | .fmvWX rd _ _ => some rd
  | .feqS _ _ _ => none
  | .fltS _ _ _ => none
  | .fleS _ _ _ => none
  | .fclassS _ _ _ => none
  | .andn _ _ _ => none
  | .orn _ _ _ => none
  | .xnor _ _ _ => none
  | .clz _ _ => none
  | .ctz _ _ => none
  | .cpop _ _ => none
  | .min _ _ _ => none
  | .max _ _ _ => none
  | .minu _ _ _ => none
  | .maxu _ _ _ => none
  | .sextB _ _ => none
  | .sextH _ _ => none
  | .zextH _ _ _ => none
  | .rol _ _ _ => none
  | .ror _ _ _ => none
  | .rori _ _ _ => none
  | .orcB _ _ _ => none
  | .rev8 _ _ _ => none

/-- A store's base register, offset and width in bytes (20_memory.md R68). -/
def Instr.storeForm : Instr → Option (RegIdx × Word × Nat)
  | .lui _ _ => none
  | .auipc _ _ => none
  | .jal _ _ => none
  | .jalr _ _ _ _ => none
  | .beq _ _ _ => none
  | .bne _ _ _ => none
  | .blt _ _ _ => none
  | .bge _ _ _ => none
  | .bltu _ _ _ => none
  | .bgeu _ _ _ => none
  | .lb _ _ _ => none
  | .lh _ _ _ => none
  | .lw _ _ _ => none
  | .lbu _ _ _ => none
  | .lhu _ _ _ => none
  | .sb rs1 _ imm => some (rs1, imm, 1)
  | .sh rs1 _ imm => some (rs1, imm, 2)
  | .sw rs1 _ imm => some (rs1, imm, 4)
  | .addi _ _ _ => none
  | .slti _ _ _ => none
  | .sltiu _ _ _ => none
  | .xori _ _ _ => none
  | .ori _ _ _ => none
  | .andi _ _ _ => none
  | .slli _ _ _ => none
  | .srli _ _ _ => none
  | .srai _ _ _ => none
  | .add _ _ _ => none
  | .sub _ _ _ => none
  | .sll _ _ _ => none
  | .slt _ _ _ => none
  | .sltu _ _ _ => none
  | .xor _ _ _ => none
  | .srl _ _ _ => none
  | .sra _ _ _ => none
  | .or _ _ _ => none
  | .and _ _ _ => none
  | .fence _ _ _ _ => none
  | .ecall _ _ _ => none
  | .ebreak _ _ _ => none
  | .mul _ _ _ => none
  | .mulh _ _ _ => none
  | .mulhsu _ _ _ => none
  | .mulhu _ _ _ => none
  | .div _ _ _ => none
  | .divu _ _ _ => none
  | .rem _ _ _ => none
  | .remu _ _ _ => none
  | .faddS _ _ _ _ => none
  | .fsubS _ _ _ _ => none
  | .fmulS _ _ _ _ => none
  | .fdivS _ _ _ _ => none
  | .fsqrtS _ _ _ _ => none
  | .fmaddS _ _ _ _ _ _ => none
  | .fmsubS _ _ _ _ _ _ => none
  | .fnmsubS _ _ _ _ _ _ => none
  | .fnmaddS _ _ _ _ _ _ => none
  | .fsgnjS _ _ _ => none
  | .fsgnjnS _ _ _ => none
  | .fsgnjxS _ _ _ => none
  | .fminS _ _ _ => none
  | .fmaxS _ _ _ => none
  | .fcvtWS _ _ _ => none
  | .fcvtWUS _ _ _ => none
  | .fcvtSW _ _ _ => none
  | .fcvtSWU _ _ _ => none
  | .fmvXW _ _ _ => none
  | .fmvWX _ _ _ => none
  | .feqS _ _ _ => none
  | .fltS _ _ _ => none
  | .fleS _ _ _ => none
  | .fclassS _ _ _ => none
  | .andn _ _ _ => none
  | .orn _ _ _ => none
  | .xnor _ _ _ => none
  | .clz _ _ => none
  | .ctz _ _ => none
  | .cpop _ _ => none
  | .min _ _ _ => none
  | .max _ _ _ => none
  | .minu _ _ _ => none
  | .maxu _ _ _ => none
  | .sextB _ _ => none
  | .sextH _ _ => none
  | .zextH _ _ _ => none
  | .rol _ _ _ => none
  | .ror _ _ _ => none
  | .rori _ _ _ => none
  | .orcB _ _ _ => none
  | .rev8 _ _ _ => none

/-- The control-transfer family: the branches and jumps of 41_control_flow.md (10_state.md R27). -/
def Instr.isControlTransfer : Instr → Bool
  | .lui _ _ => false
  | .auipc _ _ => false
  | .jal _ _ => true
  | .jalr _ _ _ _ => true
  | .beq _ _ _ => true
  | .bne _ _ _ => true
  | .blt _ _ _ => true
  | .bge _ _ _ => true
  | .bltu _ _ _ => true
  | .bgeu _ _ _ => true
  | .lb _ _ _ => false
  | .lh _ _ _ => false
  | .lw _ _ _ => false
  | .lbu _ _ _ => false
  | .lhu _ _ _ => false
  | .sb _ _ _ => false
  | .sh _ _ _ => false
  | .sw _ _ _ => false
  | .addi _ _ _ => false
  | .slti _ _ _ => false
  | .sltiu _ _ _ => false
  | .xori _ _ _ => false
  | .ori _ _ _ => false
  | .andi _ _ _ => false
  | .slli _ _ _ => false
  | .srli _ _ _ => false
  | .srai _ _ _ => false
  | .add _ _ _ => false
  | .sub _ _ _ => false
  | .sll _ _ _ => false
  | .slt _ _ _ => false
  | .sltu _ _ _ => false
  | .xor _ _ _ => false
  | .srl _ _ _ => false
  | .sra _ _ _ => false
  | .or _ _ _ => false
  | .and _ _ _ => false
  | .fence _ _ _ _ => false
  | .ecall _ _ _ => false
  | .ebreak _ _ _ => false
  | .mul _ _ _ => false
  | .mulh _ _ _ => false
  | .mulhsu _ _ _ => false
  | .mulhu _ _ _ => false
  | .div _ _ _ => false
  | .divu _ _ _ => false
  | .rem _ _ _ => false
  | .remu _ _ _ => false
  | .faddS _ _ _ _ => false
  | .fsubS _ _ _ _ => false
  | .fmulS _ _ _ _ => false
  | .fdivS _ _ _ _ => false
  | .fsqrtS _ _ _ _ => false
  | .fmaddS _ _ _ _ _ _ => false
  | .fmsubS _ _ _ _ _ _ => false
  | .fnmsubS _ _ _ _ _ _ => false
  | .fnmaddS _ _ _ _ _ _ => false
  | .fsgnjS _ _ _ => false
  | .fsgnjnS _ _ _ => false
  | .fsgnjxS _ _ _ => false
  | .fminS _ _ _ => false
  | .fmaxS _ _ _ => false
  | .fcvtWS _ _ _ => false
  | .fcvtWUS _ _ _ => false
  | .fcvtSW _ _ _ => false
  | .fcvtSWU _ _ _ => false
  | .fmvXW _ _ _ => false
  | .fmvWX _ _ _ => false
  | .feqS _ _ _ => false
  | .fltS _ _ _ => false
  | .fleS _ _ _ => false
  | .fclassS _ _ _ => false
  | .andn _ _ _ => false
  | .orn _ _ _ => false
  | .xnor _ _ _ => false
  | .clz _ _ => false
  | .ctz _ _ => false
  | .cpop _ _ => false
  | .min _ _ _ => false
  | .max _ _ _ => false
  | .minu _ _ _ => false
  | .maxu _ _ _ => false
  | .sextB _ _ => false
  | .sextH _ _ => false
  | .zextH _ _ _ => false
  | .rol _ _ _ => false
  | .ror _ _ _ => false
  | .rori _ _ _ => false
  | .orcB _ _ _ => false
  | .rev8 _ _ _ => false

/-- ECALL. -/
def Instr.isEcall : Instr → Bool
  | .lui _ _ => false
  | .auipc _ _ => false
  | .jal _ _ => false
  | .jalr _ _ _ _ => false
  | .beq _ _ _ => false
  | .bne _ _ _ => false
  | .blt _ _ _ => false
  | .bge _ _ _ => false
  | .bltu _ _ _ => false
  | .bgeu _ _ _ => false
  | .lb _ _ _ => false
  | .lh _ _ _ => false
  | .lw _ _ _ => false
  | .lbu _ _ _ => false
  | .lhu _ _ _ => false
  | .sb _ _ _ => false
  | .sh _ _ _ => false
  | .sw _ _ _ => false
  | .addi _ _ _ => false
  | .slti _ _ _ => false
  | .sltiu _ _ _ => false
  | .xori _ _ _ => false
  | .ori _ _ _ => false
  | .andi _ _ _ => false
  | .slli _ _ _ => false
  | .srli _ _ _ => false
  | .srai _ _ _ => false
  | .add _ _ _ => false
  | .sub _ _ _ => false
  | .sll _ _ _ => false
  | .slt _ _ _ => false
  | .sltu _ _ _ => false
  | .xor _ _ _ => false
  | .srl _ _ _ => false
  | .sra _ _ _ => false
  | .or _ _ _ => false
  | .and _ _ _ => false
  | .fence _ _ _ _ => false
  | .ecall _ _ _ => true
  | .ebreak _ _ _ => false
  | .mul _ _ _ => false
  | .mulh _ _ _ => false
  | .mulhsu _ _ _ => false
  | .mulhu _ _ _ => false
  | .div _ _ _ => false
  | .divu _ _ _ => false
  | .rem _ _ _ => false
  | .remu _ _ _ => false
  | .faddS _ _ _ _ => false
  | .fsubS _ _ _ _ => false
  | .fmulS _ _ _ _ => false
  | .fdivS _ _ _ _ => false
  | .fsqrtS _ _ _ _ => false
  | .fmaddS _ _ _ _ _ _ => false
  | .fmsubS _ _ _ _ _ _ => false
  | .fnmsubS _ _ _ _ _ _ => false
  | .fnmaddS _ _ _ _ _ _ => false
  | .fsgnjS _ _ _ => false
  | .fsgnjnS _ _ _ => false
  | .fsgnjxS _ _ _ => false
  | .fminS _ _ _ => false
  | .fmaxS _ _ _ => false
  | .fcvtWS _ _ _ => false
  | .fcvtWUS _ _ _ => false
  | .fcvtSW _ _ _ => false
  | .fcvtSWU _ _ _ => false
  | .fmvXW _ _ _ => false
  | .fmvWX _ _ _ => false
  | .feqS _ _ _ => false
  | .fltS _ _ _ => false
  | .fleS _ _ _ => false
  | .fclassS _ _ _ => false
  | .andn _ _ _ => false
  | .orn _ _ _ => false
  | .xnor _ _ _ => false
  | .clz _ _ => false
  | .ctz _ _ => false
  | .cpop _ _ => false
  | .min _ _ _ => false
  | .max _ _ _ => false
  | .minu _ _ _ => false
  | .maxu _ _ _ => false
  | .sextB _ _ => false
  | .sextH _ _ => false
  | .zextH _ _ _ => false
  | .rol _ _ _ => false
  | .ror _ _ _ => false
  | .rori _ _ _ => false
  | .orcB _ _ _ => false
  | .rev8 _ _ _ => false

end Sys2Proof
end

