-- ==== Sys2Proof/Certificates/Slice0/Obligations.lean ====
section
/-! DEFINITION. The statements for the provers, `Obligations.<Name>`, and the vocabulary they are written in. The results
are written here from the spec's rules, not through the definitions the meanings use. -/

namespace Sys2Proof.Claims

open Sys2Proof.Machine

/-! ## Words and their fields (30_encoding.md R90, R100 to R105) -/

/-- rd, `w[11:7]`. -/
def wRd (w : Word) : RegIdx := w.extractLsb' 7 5
/-- funct3 or rm, `w[14:12]`. -/
def wF3 (w : Word) : BitVec 3 := w.extractLsb' 12 3
/-- rs1, `w[19:15]`. -/
def wRs1 (w : Word) : RegIdx := w.extractLsb' 15 5
/-- rs2, `w[24:20]`; of an OP-IMM word, imm[4:0]. -/
def wRs2 (w : Word) : RegIdx := w.extractLsb' 20 5
/-- fmt, `w[26:25]`. -/
def wFmt (w : Word) : BitVec 2 := w.extractLsb' 25 2
/-- rs3, `w[31:27]`. -/
def wRs3 (w : Word) : RegIdx := w.extractLsb' 27 5
/-- The I immediate (R100). -/
def wImmI (w : Word) : Word := (w.extractLsb' 20 12).signExtend 32
/-- The S immediate (R101). -/
def wImmS (w : Word) : Word := (w.extractLsb' 25 7 ++ w.extractLsb' 7 5 : BitVec 12).signExtend 32
/-- The B immediate (R102). -/
def wImmB (w : Word) : Word :=
  (w.extractLsb' 31 1 ++ w.extractLsb' 7 1 ++ w.extractLsb' 25 6 ++ w.extractLsb' 8 4 ++ 0#1 : BitVec 13).signExtend 32
/-- The U immediate (R103). -/
def wImmU (w : Word) : Word := (w.extractLsb' 12 20 ++ 0#12 : BitVec 32)
/-- The J immediate (R104). -/
def wImmJ (w : Word) : Word :=
  (w.extractLsb' 31 1 ++ w.extractLsb' 12 8 ++ w.extractLsb' 20 1 ++ w.extractLsb' 21 10 ++ 0#1 : BitVec 21).signExtend 32

/-- The words that spell an instruction are exactly those of its row of the opcode map (R135), with these operands. -/
def Spells (mtch mask : Word) (mk : Word → Instr) : Prop := ∀ w : Word, w &&& mask = mtch ↔ decode w = .ok (mk w)

/-- The opcodes that have a group (R117). -/
def opcodes : List (BitVec 7) :=
  [0x03#7, 0x0F#7, 0x13#7, 0x17#7, 0x23#7, 0x33#7, 0x37#7, 0x43#7, 0x47#7, 0x4B#7, 0x4F#7, 0x53#7, 0x63#7, 0x67#7,
    0x6F#7, 0x73#7]

/-! ## Registers and memory (10_state.md, 20_memory.md) -/

/-- Reading `x[r]` gives `v` (R21). -/
def HasX (s : State) (r : RegIdx) (v : Word) : Prop :=
  (r = 0#5 ∧ v = 0#32) ∨ (r ≠ 0#5 ∧ s.x[r.toNat] = .val v)

/-- `x[r]` is `Unwritten` (R21). -/
def LacksX (s : State) (r : RegIdx) : Prop := r ≠ 0#5 ∧ s.x[r.toNat] = .unwritten

/-- Reading `f[r]` gives `v` (R24). -/
def HasF (s : State) (r : RegIdx) (v : Word) : Prop := s.f[r.toNat] = .val v

/-- `f[r]` is `Unwritten` (R24). -/
def LacksF (s : State) (r : RegIdx) : Prop := s.f[r.toNat] = .unwritten

/-- The integer file after `x[rd] <- v` (R22). -/
def putX (s : State) (rd : RegIdx) (v : Word) : Vector RegCell 32 :=
  if rd = 0#5 then s.x else s.x.set rd.toNat (.val v)

/-- The float file after `f[rd] <- v` (R24). -/
def putF (s : State) (rd : RegIdx) (v : Word) : Vector RegCell 32 := s.f.set rd.toNat (.val v)

/-- The word at an address, the lowest byte least significant (20_memory.md R61, R62). -/
def wordAt (m : Memory) (a : Nat) : Word := m.read (a + 3) ++ m.read (a + 2) ++ m.read (a + 1) ++ m.read a

/-- The halfword at an address. -/
def halfAt (m : Memory) (a : Nat) : BitVec 16 := m.read (a + 1) ++ m.read a

/-- `m'` is `m` with the `n` low bytes of `v` at `a`, the least significant first, and no other byte changed (R63). -/
def StoredAt (m m' : Memory) (a n : Nat) (v : Word) : Prop :=
  m'.wf = true ∧
  ∀ c, m'.read c = if a ≤ c ∧ c < a + n then v.extractLsb' (8 * (c - a)) 8 else m.read c

/-! ## What an instruction answers -/

/-- The state with a stop outcome taken (10_state.md R33, 60_exceptions.md R384). -/
def stopped (s : State) (e : StopReason) (word : Option Word) : State :=
  { s with run := .faulted { reason := e, pc := s.pc, word := word } }

/-- The instruction raises `e`, and that is its only effect. -/
def Stops (i : Instr) (s : State) (e : StopReason) : Prop := exec i s = .next (stopped s e (some (encode i)))

/-- `x[rd] <- v; pc <- pc + 4`, and nothing else. -/
def GoesX (i : Instr) (s : State) (rd : RegIdx) (v : Word) : Prop :=
  exec i s = .next { s with x := putX s rd v, pc := s.pc + 4 }

/-- `f[rd] <- v; pc <- pc + 4`, and nothing else. -/
def GoesF (i : Instr) (s : State) (rd : RegIdx) (v : Word) : Prop :=
  exec i s = .next { s with f := putF s rd v, pc := s.pc + 4 }

/-- The step fetches `w` (10_state.md R41). -/
def Fetches (s : State) (w : Word) : Prop :=
  s.pc.toNat % 4 = 0 ∧ s.pc.toNat + 4 ≤ s.params.memSize ∧ w = wordAt s.mem s.pc.toNat

/-- The step runs `i`. -/
def Runs (s : State) (i : Instr) : Prop := s.run = .running ∧ ∃ w, Fetches s w ∧ decode w = .ok i

/-! ## Instruction forms -/

/-- A register-register instruction with result `g`: rs1 is read, then rs2, then `x[rd]` is written (40_base_alu.md R160). -/
def RegReg (mk : RegIdx → RegIdx → RegIdx → Instr) (g : Word → Word → Word) : Prop :=
  ∀ (s : State) (rd rs1 rs2 : RegIdx),
    (∀ a b, HasX s rs1 a → HasX s rs2 b → GoesX (mk rd rs1 rs2) s rd (g a b)) ∧
    (LacksX s rs1 → Stops (mk rd rs1 rs2) s (.unwrittenRegister .X rs1)) ∧
    (∀ a, HasX s rs1 a → LacksX s rs2 → Stops (mk rd rs1 rs2) s (.unwrittenRegister .X rs2))

/-- A register-register instruction of the OP group by its match value, and its result. -/
def RegRegRule (mtch : Word) (mk : RegIdx → RegIdx → RegIdx → Instr) (g : Word → Word → Word) : Prop :=
  Spells mtch 0xFE00707F (fun w => mk (wRd w) (wRs1 w) (wRs2 w)) ∧ RegReg mk g

/-- An instruction that reads x[rs1] alone, with a third field `k`; `P a k v` says that `v` is its result. -/
def OneReg {K : Type} (mk : RegIdx → RegIdx → K → Instr) (P : Word → K → Word → Prop) : Prop :=
  ∀ (s : State) (rd rs1 : RegIdx) (k : K),
    (∀ a, HasX s rs1 a → ∃ v, P a k v ∧ GoesX (mk rd rs1 k) s rd v) ∧
    (LacksX s rs1 → Stops (mk rd rs1 k) s (.unwrittenRegister .X rs1))

/-- An OP-IMM instruction with an immediate operand, by its match value, and its result. -/
def RegImmRule (mtch : Word) (mk : RegIdx → RegIdx → Word → Instr) (g : Word → Word → Word) : Prop :=
  Spells mtch 0x0000707F (fun w => mk (wRd w) (wRs1 w) (wImmI w)) ∧ OneReg mk (fun a imm v => v = g a imm)

/-- An OP-IMM instruction with the 5-bit field imm[4:0], by its match value, and its result. -/
def RegLoRule (mtch : Word) (mk : RegIdx → RegIdx → BitVec 5 → Instr) (P : Word → BitVec 5 → Word → Prop) : Prop :=
  Spells mtch 0xFE00707F (fun w => mk (wRd w) (wRs1 w) (wRs2 w)) ∧ OneReg mk P

/-- An OP-IMM instruction with no third field, by its match value, and its result. -/
def UnaryRule (mtch : Word) (mk : RegIdx → RegIdx → Instr) (P : Word → Word → Prop) : Prop :=
  Spells mtch 0xFFF0707F (fun w => mk (wRd w) (wRs1 w)) ∧
  OneReg (fun rd rs1 (_ : Unit) => mk rd rs1) (fun a _ v => P a v)

/-- A branch by its match value and its condition (41_control_flow.md R200). -/
def BranchRule (mtch : Word) (mk : RegIdx → RegIdx → Word → Instr) (c : Word → Word → Prop) : Prop :=
  Spells mtch 0x0000707F (fun w => mk (wRs1 w) (wRs2 w) (wImmB w)) ∧
  ∀ (s : State) (rs1 rs2 : RegIdx) (imm : Word),
    (∀ a b, HasX s rs1 a → HasX s rs2 b →
      (c a b → exec (mk rs1 rs2 imm) s = .next { s with pc := s.pc + imm }) ∧
      (¬ c a b → exec (mk rs1 rs2 imm) s = .next { s with pc := s.pc + 4 })) ∧
    (LacksX s rs1 → Stops (mk rs1 rs2 imm) s (.unwrittenRegister .X rs1)) ∧
    (∀ a, HasX s rs1 a → LacksX s rs2 → Stops (mk rs1 rs2 imm) s (.unwrittenRegister .X rs2))

/-- The access at `addr` of `n` bytes passes the alignment check of the policy (20_memory.md R66). -/
def AlignOk (s : State) (addr : Word) (n : Nat) : Prop :=
  s.params.misalignedDataPolicy = .fault → addr.toNat % n = 0

/-- A load of `n` bytes by its match value; `g` is the loaded value (42_load_store.md R220). -/
def LoadRule (mtch : Word) (mk : RegIdx → RegIdx → Word → Instr) (n : Nat) (g : Memory → Nat → Word) : Prop :=
  Spells mtch 0x0000707F (fun w => mk (wRd w) (wRs1 w) (wImmI w)) ∧
  ∀ (s : State) (rd rs1 : RegIdx) (imm : Word),
    (LacksX s rs1 → Stops (mk rd rs1 imm) s (.unwrittenRegister .X rs1)) ∧
    ∀ base, HasX s rs1 base →
      (¬ AlignOk s (base + imm) n → Stops (mk rd rs1 imm) s (.loadMisaligned (base + imm))) ∧
      (AlignOk s (base + imm) n → s.params.memSize < (base + imm).toNat + n →
        Stops (mk rd rs1 imm) s (.loadOutOfRange (base + imm))) ∧
      (AlignOk s (base + imm) n → (base + imm).toNat + n ≤ s.params.memSize →
        GoesX (mk rd rs1 imm) s rd (g s.mem (base + imm).toNat))

/-- A store of `n` bytes by its match value (42_load_store.md R220). -/
def StoreRule (mtch : Word) (mk : RegIdx → RegIdx → Word → Instr) (n : Nat) : Prop :=
  Spells mtch 0x0000707F (fun w => mk (wRs1 w) (wRs2 w) (wImmS w)) ∧
  ∀ (s : State) (rs1 rs2 : RegIdx) (imm : Word),
    (LacksX s rs1 → Stops (mk rs1 rs2 imm) s (.unwrittenRegister .X rs1)) ∧
    (∀ base, HasX s rs1 base → LacksX s rs2 → Stops (mk rs1 rs2 imm) s (.unwrittenRegister .X rs2)) ∧
    ∀ base data, HasX s rs1 base → HasX s rs2 data →
      (¬ AlignOk s (base + imm) n → Stops (mk rs1 rs2 imm) s (.storeMisaligned (base + imm))) ∧
      (AlignOk s (base + imm) n → s.params.memSize < (base + imm).toNat + n →
        Stops (mk rs1 rs2 imm) s (.storeOutOfRange (base + imm))) ∧
      (AlignOk s (base + imm) n → (base + imm).toNat + n ≤ s.params.memSize → s.mem.wf = true →
        ∃ m, StoredAt s.mem m (base + imm).toNat n data ∧
          exec (mk rs1 rs2 imm) s = .next { s with mem := m, pc := s.pc + 4 })

/-! ## Environment calls (43_system.md) -/

/-- a7 = x17, a0 = x10, a1 = x11, a2 = x12 (R241). -/
def a7 : RegIdx := 17#5
def a0 : RegIdx := 10#5
def a1 : RegIdx := 11#5
def a2 : RegIdx := 12#5

/-- The buffer passes the range check of a write or read: a length of 0 always does (R243, R244). -/
def BufferOk (s : State) (buf len : Word) : Prop := 0 < len.toNat → buf.toNat + len.toNat ≤ s.params.memSize

/-- The stop outcomes of call `n`, whose file descriptor must be `fd`, in their order (R243, R244, R247). -/
def HostCallStops (n fd : Word) : Prop :=
  ∀ (s : State) (rd : RegIdx) (f3 : BitVec 3) (rs1 : RegIdx), HasX s a7 n →
    (LacksX s a0 → Stops (.ecall rd f3 rs1) s (.unwrittenRegister .X a0)) ∧
    ∀ v0, HasX s a0 v0 →
      (LacksX s a1 → Stops (.ecall rd f3 rs1) s (.unwrittenRegister .X a1)) ∧
      ∀ buf, HasX s a1 buf →
        (LacksX s a2 → Stops (.ecall rd f3 rs1) s (.unwrittenRegister .X a2)) ∧
        ∀ len, HasX s a2 len →
          (v0 ≠ fd → Stops (.ecall rd f3 rs1) s (.unsupportedEcall n (some v0))) ∧
          (v0 = fd → ¬ BufferOk s buf len → Stops (.ecall rd f3 rs1) s (.ecallOutOfRange buf len))

/-! ## binary32 (00_scope.md R16) -/

/-- Bit 31. -/
def signOf (a : Word) : Bool := a.getLsbD 31
/-- Bits 30:23. -/
def expOf (a : Word) : Nat := (a.extractLsb' 23 8).toNat
/-- Bits 22:0. -/
def fracOf (a : Word) : Nat := (a.extractLsb' 0 23).toNat
/-- A NaN: exponent all ones, fraction non-zero. -/
def IsNaN (a : Word) : Prop := expOf a = 255 ∧ fracOf a ≠ 0
/-- ±∞. -/
def IsInf (a : Word) : Prop := expOf a = 255 ∧ fracOf a = 0
/-- A finite value. -/
def IsFinite (a : Word) : Prop := expOf a ≠ 255
/-- ±0. -/
def IsZero (a : Word) : Prop := expOf a = 0 ∧ fracOf a = 0
/-- The zero of a sign. -/
def signedZero (sign : Bool) : Word := if sign then 0x80000000 else 0x00000000
/-- The infinity of a sign. -/
def signedInf (sign : Bool) : Word := if sign then 0xFF800000 else 0x7F800000
/-- Bit 31 flipped. -/
def negated (a : Word) : Word := a ^^^ 0x80000000

/-- `val(a)` of a finite a. -/
def val (a : Word) : ℚ :=
  (if signOf a then -1 else 1) *
    (if expOf a = 0 then (fracOf a : ℚ) * 2 ^ (-149 : ℤ) else (2 ^ 23 + fracOf a : ℚ) * 2 ^ ((expOf a : ℤ) - 150))

/-- `val(a)` of an a that is no NaN, as an extended rational. -/
def ext (a : Word) : WithBot (WithTop ℚ) :=
  if expOf a = 255 then (if signOf a then ⊥ else ((⊤ : WithTop ℚ) : WithBot (WithTop ℚ)))
  else ((val a : WithTop ℚ) : WithBot (WithTop ℚ))

/-- `w` is the greatest finite value at or below `r`, or -∞ where none is. -/
def RoundsDown (r : ℝ) (w : Word) : Prop :=
  (IsFinite w ∧ (val w : ℝ) ≤ r ∧ ∀ v, IsFinite v → (val v : ℝ) ≤ r → val v ≤ val w) ∨
  (w = signedInf true ∧ ∀ v, IsFinite v → r < (val v : ℝ))

/-- `w` is the least finite value at or above `r`, or +∞ where none is. -/
def RoundsUp (r : ℝ) (w : Word) : Prop :=
  (IsFinite w ∧ r ≤ (val w : ℝ) ∧ ∀ v, IsFinite v → r ≤ (val v : ℝ) → val w ≤ val v) ∨
  (w = signedInf false ∧ ∀ v, IsFinite v → (val v : ℝ) < r)

/-- `w` is the finite value nearest to `r`, the even one of two; from 2^128 - 2^103 on, the infinity of r's sign. -/
def RoundsNearest (r : ℝ) (w : Word) : Prop :=
  ((2 ^ 128 - 2 ^ 103 : ℝ) ≤ |r| → IsInf w) ∧
  (|r| < (2 ^ 128 - 2 ^ 103 : ℝ) →
    IsFinite w ∧ (∀ v, IsFinite v → |r - (val w : ℝ)| ≤ |r - (val v : ℝ)|) ∧
    ∀ v, IsFinite v → val v ≠ val w → |r - (val v : ℝ)| = |r - (val w : ℝ)| → w.getLsbD 0 = false)

/-- `w` is `round_m(r)` of a real r that is not 0 (R16, with gradual underflow); its sign is r's, a zero's too. -/
def RoundsTo (m : RoundMode) (r : ℝ) (w : Word) : Prop :=
  (signOf w = true ↔ r < 0) ∧
  match m with
  | .rne => RoundsNearest r w
  | .rtz => (0 < r → RoundsDown r w) ∧ (r < 0 → RoundsUp r w)
  | .rdn => RoundsDown r w
  | .rup => RoundsUp r w

/-- The mode that rm names (45_float.md R280). -/
def ModeOf (rm : BitVec 3) (m : RoundMode) : Prop :=
  ((rm = 0#3 ∨ rm = 4#3 ∨ rm = 7#3) ∧ m = .rne) ∨ (rm = 1#3 ∧ m = .rtz) ∨ (rm = 2#3 ∧ m = .rdn) ∨
    (rm = 3#3 ∧ m = .rup)

/-- rm 5 and 6 (R280). -/
def Reserved (rm : BitVec 3) : Prop := rm = 5#3 ∨ rm = 6#3

/-- `v` is `nanResult(op, operands)`, a NaN (R281). -/
def OpenNaN (op : Config.FpOp) (operands : List Word) (v : Word) : Prop :=
  IsNaN v ∧ v = nanWord (Config.nanResult op operands)

/-- The IEEE result of an operation on a sum is a NaN (R281). -/
def SumIsNaN (a b : Word) : Prop := IsNaN a ∨ IsNaN b ∨ (IsInf a ∧ IsInf b ∧ signOf a ≠ signOf b)

/-- A zero sum of two terms with these signs (R283). -/
def IsZeroSum (m : RoundMode) (sa sb : Bool) (v : Word) : Prop :=
  (sa = sb → v = signedZero sa) ∧ (sa ≠ sb → m ≠ .rdn → v = signedZero false) ∧ (sa ≠ sb → m = .rdn → v = signedZero true)

/-- `v` is the sum of a and b (R281, R283, R284). -/
def IsSum (op : Config.FpOp) (operands : List Word) (m : RoundMode) (a b v : Word) : Prop :=
  (SumIsNaN a b → OpenNaN op operands v) ∧
  (¬ SumIsNaN a b →
    (IsInf a → v = a) ∧ (IsInf b → v = b) ∧
    (IsFinite a → IsFinite b →
      (val a + val b = 0 → IsZeroSum m (signOf a) (signOf b) v) ∧
      (val a + val b ≠ 0 → RoundsTo m ((val a + val b : ℚ) : ℝ) v)))

/-- `v` is the product of a and b (R281, R283, R286). -/
def IsProduct (m : RoundMode) (a b v : Word) : Prop :=
  (IsNaN a ∨ IsNaN b ∨ (IsZero a ∧ IsInf b) ∨ (IsInf a ∧ IsZero b) → OpenNaN .fmul [a, b] v) ∧
  (¬ (IsNaN a ∨ IsNaN b ∨ (IsZero a ∧ IsInf b) ∨ (IsInf a ∧ IsZero b)) →
    (IsInf a ∨ IsInf b → v = signedInf (signOf a != signOf b)) ∧
    (IsFinite a → IsFinite b →
      (val a * val b = 0 → v = signedZero (signOf a != signOf b)) ∧
      (val a * val b ≠ 0 → RoundsTo m ((val a * val b : ℚ) : ℝ) v)))

/-- `v` is the quotient of a and b (R281, R283, R287); ∞ over ±0 is left to `Obligations.ZerosAndInfinities`. -/
def IsQuotient (m : RoundMode) (a b v : Word) : Prop :=
  (IsNaN a ∨ IsNaN b ∨ (IsZero a ∧ IsZero b) ∨ (IsInf a ∧ IsInf b) → OpenNaN .fdiv [a, b] v) ∧
  (¬ (IsNaN a ∨ IsNaN b ∨ (IsZero a ∧ IsZero b) ∨ (IsInf a ∧ IsInf b)) →
    (IsInf a → ¬ IsZero b → v = signedInf (signOf a != signOf b)) ∧
    (IsFinite a → IsZero b → v = signedInf (signOf a != signOf b)) ∧
    (IsFinite a → IsInf b → v = signedZero (signOf a != signOf b)) ∧
    (IsFinite a → IsFinite b → val b ≠ 0 →
      (val a = 0 → v = signedZero (signOf a != signOf b)) ∧
      (val a ≠ 0 → RoundsTo m ((val a / val b : ℚ) : ℝ) v)))

/-- `v` is the square root of a (R281, R283, R288). -/
def IsRoot (m : RoundMode) (a v : Word) : Prop :=
  (IsNaN a ∨ (signOf a = true ∧ ¬ IsZero a) → OpenNaN .fsqrt [a] v) ∧
  (¬ (IsNaN a ∨ (signOf a = true ∧ ¬ IsZero a)) →
    (IsZero a → v = a) ∧ (IsInf a → v = a) ∧
    (IsFinite a → 0 < val a → RoundsTo m (Real.sqrt ((val a : ℚ) : ℝ)) v))

/-- The IEEE result of a fused multiply-add is a NaN (R281). -/
def FusedIsNaN (p q r : Word) : Prop :=
  IsNaN p ∨ IsNaN q ∨ IsNaN r ∨ (IsZero p ∧ IsInf q) ∨ (IsInf p ∧ IsZero q) ∨
    ((IsInf p ∨ IsInf q) ∧ IsInf r ∧ (signOf p != signOf q) ≠ signOf r)

/-- `v` is `fma_m(p, q, r)` (R281, R283, R289 to R292). -/
def IsFused (op : Config.FpOp) (operands : List Word) (m : RoundMode) (p q r v : Word) : Prop :=
  (FusedIsNaN p q r → OpenNaN op operands v) ∧
  (¬ FusedIsNaN p q r →
    (IsInf p ∨ IsInf q → v = signedInf (signOf p != signOf q)) ∧
    (IsFinite p → IsFinite q → IsInf r → v = r) ∧
    (IsFinite p → IsFinite q → IsFinite r →
      (val p * val q + val r = 0 → IsZeroSum m (signOf p != signOf q) (signOf r) v) ∧
      (val p * val q + val r ≠ 0 → RoundsTo m ((val p * val q + val r : ℚ) : ℝ) v)))

/-- The shape of FADD.S and its kin: rm, f[rs1], f[rs2] in that order; `P m a b v` says that `v` is the result. -/
def FloatRm (mk : RegIdx → RegIdx → RegIdx → BitVec 3 → Instr) (P : RoundMode → Word → Word → Word → Prop) : Prop :=
  ∀ (s : State) (rd rs1 rs2 : RegIdx) (rm : BitVec 3),
    (∀ m a b, ModeOf rm m → HasF s rs1 a → HasF s rs2 b → ∃ v, P m a b v ∧ GoesF (mk rd rs1 rs2 rm) s rd v) ∧
    (Reserved rm → Stops (mk rd rs1 rs2 rm) s (.reservedRoundingMode rm)) ∧
    (¬ Reserved rm → LacksF s rs1 → Stops (mk rd rs1 rs2 rm) s (.unwrittenRegister .F rs1)) ∧
    (∀ a, ¬ Reserved rm → HasF s rs1 a → LacksF s rs2 → Stops (mk rd rs1 rs2 rm) s (.unwrittenRegister .F rs2))

/-- The shape of FSQRT.S: rm, then f[rs1]; rs2 is not examined. -/
def FloatRm1 (mk : RegIdx → RegIdx → RegIdx → BitVec 3 → Instr) (P : RoundMode → Word → Word → Prop) : Prop :=
  ∀ (s : State) (rd rs1 rs2 : RegIdx) (rm : BitVec 3),
    (∀ m a, ModeOf rm m → HasF s rs1 a → ∃ v, P m a v ∧ GoesF (mk rd rs1 rs2 rm) s rd v) ∧
    (Reserved rm → Stops (mk rd rs1 rs2 rm) s (.reservedRoundingMode rm)) ∧
    (¬ Reserved rm → LacksF s rs1 → Stops (mk rd rs1 rs2 rm) s (.unwrittenRegister .F rs1))

/-- The shape of the FMA family: rm, f[rs1], f[rs2], f[rs3] in that order. -/
def FusedRm (mk : RegIdx → RegIdx → RegIdx → RegIdx → BitVec 3 → BitVec 2 → Instr)
    (P : RoundMode → Word → Word → Word → Word → Prop) : Prop :=
  ∀ (s : State) (rd rs1 rs2 rs3 : RegIdx) (rm : BitVec 3) (fmt : BitVec 2),
    (∀ m a b c, ModeOf rm m → HasF s rs1 a → HasF s rs2 b → HasF s rs3 c →
      ∃ v, P m a b c v ∧ GoesF (mk rd rs1 rs2 rs3 rm fmt) s rd v) ∧
    (Reserved rm → Stops (mk rd rs1 rs2 rs3 rm fmt) s (.reservedRoundingMode rm)) ∧
    (¬ Reserved rm → LacksF s rs1 → Stops (mk rd rs1 rs2 rs3 rm fmt) s (.unwrittenRegister .F rs1)) ∧
    (∀ a, ¬ Reserved rm → HasF s rs1 a → LacksF s rs2 →
      Stops (mk rd rs1 rs2 rs3 rm fmt) s (.unwrittenRegister .F rs2)) ∧
    (∀ a b, ¬ Reserved rm → HasF s rs1 a → HasF s rs2 b → LacksF s rs3 →
      Stops (mk rd rs1 rs2 rs3 rm fmt) s (.unwrittenRegister .F rs3))

/-- The OP-FP rows with rm in funct3. -/
def SpellsRm (mtch : Word) (mk : RegIdx → RegIdx → RegIdx → BitVec 3 → Instr) : Prop :=
  Spells mtch 0xFE00007F (fun w => mk (wRd w) (wRs1 w) (wRs2 w) (wF3 w))

/-- The FMA rows. -/
def SpellsFused (mtch : Word) (mk : RegIdx → RegIdx → RegIdx → RegIdx → BitVec 3 → BitVec 2 → Instr) : Prop :=
  Spells mtch 0x0000007F (fun w => mk (wRd w) (wRs1 w) (wRs2 w) (wRs3 w) (wF3 w) (wFmt w))

/-- A two-operand float instruction without rm that writes `f[rd]`, by its match value. -/
def FloatFRule (mtch : Word) (mk : RegIdx → RegIdx → RegIdx → Instr) (P : Word → Word → Word → Prop) : Prop :=
  Spells mtch 0xFE00707F (fun w => mk (wRd w) (wRs1 w) (wRs2 w)) ∧
  ∀ (s : State) (rd rs1 rs2 : RegIdx),
    (∀ a b, HasF s rs1 a → HasF s rs2 b → ∃ v, P a b v ∧ GoesF (mk rd rs1 rs2) s rd v) ∧
    (LacksF s rs1 → Stops (mk rd rs1 rs2) s (.unwrittenRegister .F rs1)) ∧
    (∀ a, HasF s rs1 a → LacksF s rs2 → Stops (mk rd rs1 rs2) s (.unwrittenRegister .F rs2))

/-- A comparison: `x[rd]` is 1 where neither operand is a NaN and `c` holds of their values, else 0. -/
def CompareRule (mtch : Word) (mk : RegIdx → RegIdx → RegIdx → Instr)
    (c : WithBot (WithTop ℚ) → WithBot (WithTop ℚ) → Prop) : Prop :=
  Spells mtch 0xFE00707F (fun w => mk (wRd w) (wRs1 w) (wRs2 w)) ∧
  ∀ (s : State) (rd rs1 rs2 : RegIdx),
    (∀ a b, HasF s rs1 a → HasF s rs2 b →
      (¬ IsNaN a ∧ ¬ IsNaN b ∧ c (ext a) (ext b) → GoesX (mk rd rs1 rs2) s rd 1) ∧
      (¬ (¬ IsNaN a ∧ ¬ IsNaN b ∧ c (ext a) (ext b)) → GoesX (mk rd rs1 rs2) s rd 0)) ∧
    (LacksF s rs1 → Stops (mk rd rs1 rs2) s (.unwrittenRegister .F rs1)) ∧
    (∀ a, HasF s rs1 a → LacksF s rs2 → Stops (mk rd rs1 rs2) s (.unwrittenRegister .F rs2))

/-- An instruction that reads f[rs1] and writes x[rd], with a field `k` it does not examine. -/
def FloatToX {K : Type} (mk : RegIdx → RegIdx → K → Instr) (P : State → Word → Word → Prop) : Prop :=
  ∀ (s : State) (rd rs1 : RegIdx) (k : K),
    (∀ a, HasF s rs1 a → ∃ v, P s a v ∧ GoesX (mk rd rs1 k) s rd v) ∧
    (LacksF s rs1 → Stops (mk rd rs1 k) s (.unwrittenRegister .F rs1))

/-- An instruction that reads x[rs1] and writes f[rd], with a field `k` it does not examine. -/
def XToFloat {K : Type} (mk : RegIdx → RegIdx → K → Instr) (P : Word → Word → Prop) : Prop :=
  ∀ (s : State) (rd rs1 : RegIdx) (k : K),
    (∀ a, HasX s rs1 a → ∃ v, P a v ∧ GoesF (mk rd rs1 k) s rd v) ∧
    (LacksX s rs1 → Stops (mk rd rs1 k) s (.unwrittenRegister .X rs1))

/-- The operands are +0 and -0, in either order. -/
def OppositeZeros (a b : Word) : Prop := IsZero a ∧ IsZero b ∧ signOf a ≠ signOf b

/-- `v` is FMIN.S's or FMAX.S's result (R296, R297); `first` says that a is taken. -/
def IsMinMax (op : Config.MinMaxOp) (first : WithBot (WithTop ℚ) → WithBot (WithTop ℚ) → Prop) (a b v : Word) : Prop :=
  (IsNaN a → IsNaN b → IsNaN v ∧ v = nanWord (Config.fminmaxBothNaN op a b)) ∧
  (IsNaN a → ¬ IsNaN b → v = b) ∧
  (¬ IsNaN a → IsNaN b → v = a) ∧
  (¬ IsNaN a → ¬ IsNaN b →
    (OppositeZeros a b → v = signedZero (Config.fminmaxZero op a b)) ∧
    (¬ OppositeZeros a b → (first (ext a) (ext b) → v = a) ∧ (¬ first (ext a) (ext b) → v = b)))

/-- `n` is `rint(r)`: the nearest integer, a tie going the way `tie` says (45_float.md §6). -/
def IsRint (tie : Config.TieBreak) (r : ℚ) (n : ℤ) : Prop :=
  |r - n| ≤ 1 / 2 ∧
  (|r - n| = 1 / 2 →
    match tie with
    | .tiesToEven => n % 2 = 0
    | .tiesAway => |r| < |(n : ℚ)|)

/-- `v` is the integer a converts to, clamped to lo .. hi (R298, R299). -/
def IsClamped (tie : Config.TieBreak) (lo hi : ℤ) (a v : Word) : Prop :=
  (IsInf a → signOf a = true → v = BitVec.ofInt 32 lo) ∧
  (IsInf a → signOf a = false → v = BitVec.ofInt 32 hi) ∧
  (IsFinite a → ∃ n, IsRint tie (val a) n ∧ v = BitVec.ofInt 32 (min hi (max lo n)))

end Sys2Proof.Claims

open Sys2Proof Sys2Proof.Machine Sys2Proof.Claims

/-- One or more words of every family, taken from the examples of the spec's rules, decode to the instruction and
operands the spec gives them: 0x123450B7 LUI, 0x00001297 AUIPC, 0x020000EF JAL, 0x004280E7 JALR, 0xFFF08283 LB,
0x0020A423 SW, 0x00500093 ADDI, 0x0FF0000F FENCE, 0x00000073 ECALL, 0x00100073 EBREAK, 0x022081B3 MUL, 0x0220C1B3 DIV,
0x002091D3 FADD.S with rm 1, 0x18208243 FMADD.S, 0xC00081D3 FCVT.W.S, 0x60009193 CLZ, 0x6980D193 REV8. O1, derived;
30_encoding.md §5, 95_test_vectors.md. -/
def Obligations.SampleWordsDecode : Prop :=
  decode 0x123450B7 = .ok (.lui 1 0x12345000) ∧
  decode 0x00001297 = .ok (.auipc 5 0x00001000) ∧
  decode 0x020000EF = .ok (.jal 1 0x20) ∧
  decode 0x004280E7 = .ok (.jalr 1 0 5 4) ∧
  decode 0xFFF08283 = .ok (.lb 5 1 0xFFFFFFFF) ∧
  decode 0x0020A423 = .ok (.sw 1 2 8) ∧
  decode 0x00500093 = .ok (.addi 1 0 5) ∧
  decode 0x0FF0000F = .ok (.fence 0 0 0 0xFF) ∧
  decode 0x00000073 = .ok (.ecall 0 0 0) ∧
  decode 0x00100073 = .ok (.ebreak 0 0 0) ∧
  decode 0x022081B3 = .ok (.mul 3 1 2) ∧
  decode 0x0220C1B3 = .ok (.div 3 1 2) ∧
  decode 0x002091D3 = .ok (.faddS 3 1 2 1) ∧
  decode 0x18208243 = .ok (.fmaddS 4 1 2 3 0 0) ∧
  decode 0xC00081D3 = .ok (.fcvtWS 3 1 0) ∧
  decode 0x60009193 = .ok (.clz 3 1) ∧
  decode 0x6980D193 = .ok (.rev8 3 1 0x18)

/-- For each of the seven formats F and every field tuple t whose immediate is in range, decode_F(enc_F(t)) = t; and
for every word w, enc_F(decode_F(w)) = w. The spec marks the second half as derived from its format rules
(30_encoding.md §2: 'Each of the seven formats carries all 32 bits of the word in its fields'). O2, derived;
30_encoding.md §2, the round-trip rule, 30_encoding.md §1. -/
def Obligations.FormatRoundTrip : Prop :=
  (∀ f : RFields, decodeR (encR f) = f) ∧
  (∀ f : IFields, immFits12 f.imm → decodeI (encI f) = f) ∧
  (∀ f : SFields, immFits12 f.imm → decodeS (encS f) = f) ∧
  (∀ f : BFields, immFits13 f.imm → decodeB (encB f) = f) ∧
  (∀ f : UFields, immFitsU f.imm → decodeU (encU f) = f) ∧
  (∀ f : JFields, immFits21 f.imm → decodeJ (encJ f) = f) ∧
  (∀ f : R4Fields, decodeR4 (encR4 f) = f) ∧
  ∀ w : Word, encR (decodeR w) = w ∧ encI (decodeI w) = w ∧ encS (decodeS w) = w ∧ encB (decodeB w) = w ∧
    encU (decodeU w) = w ∧ encJ (decodeJ w) = w ∧ encR4 (decodeR4 w) = w

/-- Every immediate is the concatenation of its format's bits, sign-extended, in its format's range. O3; R100, R101,
R102, R103, R104. -/
def Obligations.ImmediateValues : Prop :=
  ∀ w : Word,
    (immI w = wImmI w ∧ -2048 ≤ (immI w).toInt ∧ (immI w).toInt ≤ 2047) ∧
    (immS w = wImmS w ∧ -2048 ≤ (immS w).toInt ∧ (immS w).toInt ≤ 2047) ∧
    (immB w = wImmB w ∧ -4096 ≤ (immB w).toInt ∧ (immB w).toInt ≤ 4094 ∧ (immB w).toInt % 2 = 0) ∧
    (immU w = wImmU w ∧ immU w = w &&& 0xFFFFF000) ∧
    (immJ w = wImmJ w ∧ -1048576 ≤ (immJ w).toInt ∧ (immJ w).toInt ≤ 1048574 ∧ (immJ w).toInt % 2 = 0)

/-- For every instruction of all 90 rows, with every operand at every value its encoding admits, decode (encode i) =
i. O4, derived; 30_encoding.md §2, 30_encoding.md §4. -/
def Obligations.DecodeOfEncode : Prop :=
  ∀ i : Instr, i.wf = true → decode (encode i) = .ok i

/-- For every word w and instruction i: if decode w = i then encode i = w and i is well-formed. So no bit of a word is
dropped, and the word a fault record holds, which the meanings recompute as encode i, is the fetched word. O5,
derived; 30_encoding.md §2, 30_encoding.md §4. -/
def Obligations.EncodeOfDecode : Prop :=
  ∀ (w : Word) (i : Instr), decode w = .ok i → encode i = w ∧ i.wf = true

/-- For every word w and instruction i: w & mask(i) = match(i) exactly when Lookup returns i's slot; and no word
matches two rows. The spec marks both as derived (30_encoding.md §5 'That is exactly when Lookup (rule R115) returns
I's slot', §4 'no word matches two rows'). O6, derived; 30_encoding.md §5, 30_encoding.md §4. -/
def Obligations.OpcodeMapRows : Prop :=
  (∀ (w : Word) (i : Instr), w &&& i.row.2 = i.row.1 ↔ ∃ j : Instr, decode w = .ok j ∧ j.row = i.row) ∧
  ∀ (w : Word) (i j : Instr), w &&& i.row.2 = i.row.1 → w &&& j.row.2 = j.row.1 → i.row = j.row

/-- A step that fetches w, in a running state, raises UnknownOpcode(w) when w's opcode is not among the 16 of rule
R117, and UnknownInstruction(w) when its opcode is but w matches no row of the opcode map. Exactly 112 opcode values
have no group, the listed ones (0x07, 0x27, 0x2F, 0x3B, 0x1B, 0x0B, 0x2B, 0x5B, 0x7B, 0x57 and every one whose bits
[1:0] are not 0b11) among them. The nine example words of rule R141 are rejected by the names it gives; they are the
spec's own inference, marked there as derived from rules R117 to R133. O7, derived; 30_encoding.md §4, 30_encoding.md
§6. -/
def Obligations.IllegalWordsStop : Prop :=
  (∀ (s : State) (w : Word), s.run = .running → Fetches s w →
    (w.extractLsb' 0 7 ∉ opcodes → step s = .next (stopped s .unknownOpcode (some w))) ∧
    (w.extractLsb' 0 7 ∈ opcodes → (∀ i : Instr, w &&& i.row.2 ≠ i.row.1) →
      step s = .next (stopped s .unknownInstruction (some w)))) ∧
  ((Finset.univ : Finset (Fin 128)).filter fun k => BitVec.ofNat 7 k.val ∉ opcodes).card = 112 ∧
  (∀ op ∈ [0x07#7, 0x27#7, 0x2F#7, 0x3B#7, 0x1B#7, 0x0B#7, 0x2B#7, 0x5B#7, 0x7B#7, 0x57#7], op ∉ opcodes) ∧
  (∀ op : BitVec 7, op.extractLsb' 0 2 ≠ 0b11#2 → op ∉ opcodes) ∧
  decode 0x00000000 = .error .unknownOpcode ∧
  decode 0xFFFFFFFF = .error .unknownOpcode ∧
  decode 0x00003003 = .error .unknownInstruction ∧
  (∀ w : Word, w.extractLsb' 0 7 = 0x63#7 → wF3 w = 0b010#3 → decode w = .error .unknownInstruction) ∧
  decode 0x02001013 = .error .unknownInstruction ∧
  decode 0x30200073 = .error .unknownInstruction ∧
  decode 0x10500073 = .error .unknownInstruction ∧
  decode 0xC00020F3 = .error .unknownInstruction ∧
  decode 0x02000053 = .error .unknownInstruction

/-- The aliases of 30_encoding.md §6, which the spec marks as derived from its keys: every SYSTEM word with imm 0 is
ECALL and with imm 1 EBREAK; every MISC-MEM word is FENCE; JALR ignores funct3; the four FMA opcodes ignore fmt;
FSQRT.S, FMV.X.W, FCLASS.S, FMV.W.X ignore rs2 and the arithmetic rows accept every rm; the conversions accept every
rm; ZEXT.H ignores rs2; ORC.B and REV8 ignore imm[4:0]. O8, derived; 30_encoding.md §6, item list of aliases. -/
def Obligations.AliasesExecute : Prop :=
  ∀ w : Word,
    let op := w.extractLsb' 0 7
    let f7 := w.extractLsb' 25 7
    (op = 0x73#7 → w.extractLsb' 20 12 = 0#12 → decode w = .ok (.ecall (wRd w) (wF3 w) (wRs1 w))) ∧
    (op = 0x73#7 → w.extractLsb' 20 12 = 1#12 → decode w = .ok (.ebreak (wRd w) (wF3 w) (wRs1 w))) ∧
    (op = 0x0F#7 → decode w = .ok (.fence (wRd w) (wF3 w) (wRs1 w) (wImmI w))) ∧
    (op = 0x67#7 → decode w = .ok (.jalr (wRd w) (wF3 w) (wRs1 w) (wImmI w))) ∧
    (op = 0x43#7 → decode w = .ok (.fmaddS (wRd w) (wRs1 w) (wRs2 w) (wRs3 w) (wF3 w) (wFmt w))) ∧
    (op = 0x47#7 → decode w = .ok (.fmsubS (wRd w) (wRs1 w) (wRs2 w) (wRs3 w) (wF3 w) (wFmt w))) ∧
    (op = 0x4B#7 → decode w = .ok (.fnmsubS (wRd w) (wRs1 w) (wRs2 w) (wRs3 w) (wF3 w) (wFmt w))) ∧
    (op = 0x4F#7 → decode w = .ok (.fnmaddS (wRd w) (wRs1 w) (wRs2 w) (wRs3 w) (wF3 w) (wFmt w))) ∧
    (op = 0x53#7 → f7 = 0b0000000#7 → decode w = .ok (.faddS (wRd w) (wRs1 w) (wRs2 w) (wF3 w))) ∧
    (op = 0x53#7 → f7 = 0b0000100#7 → decode w = .ok (.fsubS (wRd w) (wRs1 w) (wRs2 w) (wF3 w))) ∧
    (op = 0x53#7 → f7 = 0b0001000#7 → decode w = .ok (.fmulS (wRd w) (wRs1 w) (wRs2 w) (wF3 w))) ∧
    (op = 0x53#7 → f7 = 0b0001100#7 → decode w = .ok (.fdivS (wRd w) (wRs1 w) (wRs2 w) (wF3 w))) ∧
    (op = 0x53#7 → f7 = 0b0101100#7 → decode w = .ok (.fsqrtS (wRd w) (wRs1 w) (wRs2 w) (wF3 w))) ∧
    (op = 0x53#7 → f7 = 0b1110000#7 → wF3 w = 0#3 → decode w = .ok (.fmvXW (wRd w) (wRs1 w) (wRs2 w))) ∧
    (op = 0x53#7 → f7 = 0b1110000#7 → wF3 w = 1#3 → decode w = .ok (.fclassS (wRd w) (wRs1 w) (wRs2 w))) ∧
    (op = 0x53#7 → f7 = 0b1111000#7 → wF3 w = 0#3 → decode w = .ok (.fmvWX (wRd w) (wRs1 w) (wRs2 w))) ∧
    (op = 0x53#7 → f7 = 0b1100000#7 → wRs2 w = 0#5 → decode w = .ok (.fcvtWS (wRd w) (wRs1 w) (wF3 w))) ∧
    (op = 0x53#7 → f7 = 0b1100000#7 → wRs2 w = 1#5 → decode w = .ok (.fcvtWUS (wRd w) (wRs1 w) (wF3 w))) ∧
    (op = 0x53#7 → f7 = 0b1101000#7 → wRs2 w = 0#5 → decode w = .ok (.fcvtSW (wRd w) (wRs1 w) (wF3 w))) ∧
    (op = 0x53#7 → f7 = 0b1101000#7 → wRs2 w = 1#5 → decode w = .ok (.fcvtSWU (wRd w) (wRs1 w) (wF3 w))) ∧
    (op = 0x33#7 → f7 = 0b0000100#7 → wF3 w = 4#3 → decode w = .ok (.zextH (wRd w) (wRs1 w) (wRs2 w))) ∧
    (op = 0x13#7 → f7 = 0b0010100#7 → wF3 w = 5#3 → decode w = .ok (.orcB (wRd w) (wRs1 w) (wRs2 w))) ∧
    (op = 0x13#7 → f7 = 0b0110100#7 → wF3 w = 5#3 → decode w = .ok (.rev8 (wRd w) (wRs1 w) (wRs2 w)))

/-- Reading x0 gives 0, reading an Unwritten register raises UnwrittenRegister, and a write to x0 has no effect. O9;
R21, R22. -/
def Obligations.IntegerRegisterAccess : Prop :=
  ∀ (s : State) (r : RegIdx) (v : Word),
    s.readX 0#5 = .ok 0#32 ∧
    (r ≠ 0#5 → s.x[r.toNat] = .unwritten → s.readX r = .error (.unwrittenRegister .X r)) ∧
    (∀ u, r ≠ 0#5 → s.x[r.toNat] = .val u → s.readX r = .ok u) ∧
    s.writeX 0#5 v = s ∧
    (r ≠ 0#5 → s.writeX r v = { s with x := s.x.set r.toNat (.val v) } ∧ (s.writeX r v).x[r.toNat] = .val v ∧
      ∀ q : RegIdx, q ≠ r → (s.writeX r v).x[q.toNat] = s.x[q.toNat])

/-- Every float register, f0 included, reads its cell or raises UnwrittenRegister, and is written like any other. O10;
R24. -/
def Obligations.FloatRegisterAccess : Prop :=
  ∀ (s : State) (r : RegIdx) (v : Word),
    (s.f[r.toNat] = .unwritten → s.readF r = .error (.unwrittenRegister .F r)) ∧
    (∀ u, s.f[r.toNat] = .val u → s.readF r = .ok u) ∧
    s.writeF r v = { s with f := s.f.set r.toNat (.val v) } ∧
    (s.writeF r v).f[r.toNat] = .val v ∧
    (∀ q : RegIdx, q ≠ r → (s.writeF r v).f[q.toNat] = s.f[q.toNat])

/-- A launch makes a state with x0 reading 0, the registers, entry and memory it was given, Running, and an empty host
log. O11; R47. -/
def Obligations.LaunchState : Prop :=
  (∀ (l : Launch) (r : RegIdx),
    (State.launch l).readX 0#5 = .ok 0#32 ∧
    (r ≠ 0#5 → (State.launch l).x[r.toNat] = l.initX[r.toNat]) ∧
    (State.launch l).f[r.toNat] = l.initF[r.toNat] ∧
    (State.launch l).pc = l.entry ∧
    (State.launch l).mem = l.initMem ∧
    (State.launch l).run = .running ∧
    (State.launch l).run.exitCode = none ∧
    (State.launch l).hostLog = [] ∧
    (State.launch l).params = l.params) ∧
  ∀ r : RegIdx, unwrittenFile[r.toNat] = .unwritten

/-- State.reset is a launch: Running, no host event, the default misaligned policy allow. That every register holds 0
(log entry 2), that memory reads as 0 everywhere (log entry 3), that the pc is 0 (log entry 4) and that MEM_SIZE is
2^32 (log entry 5) are the model's choices of the launch parameters that the spec leaves open. O12, derived;
10_state.md §9, 70_reset_and_hazards.md §1. -/
def Obligations.ResetState : Prop :=
  (∀ r : RegIdx, State.reset.readX r = .ok 0#32 ∧ State.reset.readF r = .ok 0#32) ∧
  State.reset.pc = 0#32 ∧
  (∀ a, State.reset.mem.read a = 0#8) ∧
  State.reset.run = .running ∧
  State.reset.hostLog = [] ∧
  State.reset.params.memSize = 2 ^ 32 ∧
  State.reset.params.misalignedDataPolicy = .allow

/-- State.reset has the invariant of the core's states: memory in canonical form with nothing outside the buffer, the
cell of x0 holding 0, legal parameters. O13, derived; 10_state.md §9, 20_memory.md §1. -/
def Obligations.ResetInvariant : Prop :=
  State.reset.Inv

/-- For every state s with the invariant and every t, if step s answers the next state t, then t has the invariant.
O14, derived; 10_state.md §2, 20_memory.md §1, 00_scope.md §4. -/
def Obligations.StepKeepsInvariant : Prop :=
  ∀ s t : State, s.Inv → step s = .next t → t.Inv

/-- If every register of s holds a value and step s answers t, then every register of t holds a value, and t is not a
stop with UnwrittenRegister. O15, derived; 60_exceptions.md §1, the rule on UnwrittenRegister, 70_reset_and_hazards.md
§1. -/
def Obligations.StepKeepsRegistersWritten : Prop :=
  ∀ s t : State, s.AllWritten → step s = .next t →
    t.AllWritten ∧ ∀ (file : RegFile) (index : RegIdx) (pc : Word) (word : Option Word),
      t.run ≠ .faulted { reason := .unwrittenRegister file index, pc := pc, word := word }

/-- In a running state whose pc is a multiple of 4 and in range, and whose four bytes at the pc, little-endian, decode
to i, step s = exec i s: the step does nothing around it (the meaning itself sets the next pc). O16, derived;
10_state.md §8. -/
def Obligations.StepRunsDecodedInstruction : Prop :=
  ∀ (s : State) (i : Instr), Runs s i → step s = exec i s

/-- Fetch checks alignment, then range, then reads the little-endian word at the pc, whatever the data policy. O17;
R41. -/
def Obligations.FetchChecks : Prop :=
  ∀ s : State, s.run = .running →
    (s.pc.extractLsb' 0 2 ≠ 0b00#2 → step s = .next (stopped s .fetchMisaligned none)) ∧
    (s.pc.extractLsb' 0 2 = 0b00#2 → s.params.memSize < s.pc.toNat + 4 →
      step s = .next (stopped s .fetchOutOfRange none)) ∧
    (s.pc.extractLsb' 0 2 = 0b00#2 → s.pc.toNat + 4 ≤ s.params.memSize →
      s.fetch = .ok (wordAt s.mem s.pc.toNat)) ∧
    ∀ p : Config.MisalignedPolicy, ({ s with params.misalignedDataPolicy := p } : State).fetch = s.fetch

/-- step s answers a next state exactly when s is Running; from Halted and Faulted it answers the model's fault
notRunning. A step never answers a refusal. O18, derived; 10_state.md §8, 10_state.md §5. -/
def Obligations.StepEnabledIffRunning : Prop :=
  ∀ s : State,
    ((∃ t, step s = .next t) ↔ s.run = .running) ∧
    (s.run ≠ .running → step s = .fault .notRunning) ∧
    ∀ r, step s ≠ .refused r

/-- A step ends Running, Halted by the exit environment call only, or Faulted. O19; R44. -/
def Obligations.StepOutcomes : Prop :=
  ∀ s : State, s.run = .running → ∃ t, step s = .next t ∧
    (t.run = .running ∨
     (∃ code rd f3 rs1, t.run = .halted code ∧ Runs s (.ecall rd f3 rs1) ∧ HasX s a7 93 ∧ HasX s a0 code) ∨
     ∃ r, t.run = .faulted r)

/-- A step that ends Faulted changes nothing but run, and records the pc and the fetched word. O20; R384. -/
def Obligations.FaultIsAllOrNothing : Prop :=
  ∀ (s t : State) (r : FaultRecord), step s = .next t → t.run = .faulted r →
    t = { s with run := .faulted r } ∧ r.pc = s.pc ∧
    (∀ w, Fetches s w → r.word = some w) ∧ ((∀ w, ¬ Fetches s w) → r.word = none)

/-- The host log starts empty and only an environment call appends to it, one event at a time, at the end. O21; R35.
-/
def Obligations.OnlyEcallLogs : Prop :=
  (∀ l : Launch, (State.launch l).hostLog = []) ∧
  ∀ s t : State, step s = .next t → t.hostLog = s.hostLog ∨
    ∃ rd f3 rs1, Runs s (.ecall rd f3 rs1) ∧
      ((HasX s a7 64 ∧ ∃ fd bytes, t.hostLog = s.hostLog ++ [.write fd bytes]) ∨
       (HasX s a7 63 ∧ ∃ fd n bytes, t.hostLog = s.hostLog ++ [.read fd n bytes]))

/-- For every one of the 90 instructions, when exec answers a next state, every cell of the integer file is unchanged
except that of the instruction's destination x[rd] (for ECALL, a0 = x10); and x0's cell is never changed. Stores,
branches, FENCE, EBREAK and the float instructions whose destination is f[rd] have no integer destination. O22,
derived; 10_state.md §2, 40_base_alu.md §1, 42_load_store.md §4. -/
def Obligations.IntegerRegisterFrame : Prop :=
  ∀ (i : Instr) (s t : State), exec i s = .next t →
    ∀ r : RegIdx, (r = 0#5 ∨ i.destX ≠ some r) → t.x[r.toNat] = s.x[r.toNat]

/-- For every one of the 90 instructions, when exec answers a next state, every cell of the float file is unchanged
except that of the instruction's destination f[rd]; the integer, memory, branch and system instructions, the
comparisons, FCLASS.S, FMV.X.W, FCVT.W.S and FCVT.WU.S have none. O23, derived; 10_state.md §3, 45_float.md §1. -/
def Obligations.FloatRegisterFrame : Prop :=
  ∀ (i : Instr) (s t : State), exec i s = .next t →
    ∀ r : RegIdx, i.destF ≠ some r → t.f[r.toNat] = s.f[r.toNat]

/-- For every one of the 90 instructions, when exec answers a next state from a state whose memory is canonical (an
invariant every step keeps), every byte reads as before unless it is one of the n bytes at x[rs1] + imm of SB (1), SH
(2) or SW (4), or one of the len bytes at a1 of an ECALL with a7 = 63, where a1 and a2 = len are its registers. An
instruction that is neither a store nor a read call changes no byte. O24, derived; 20_memory.md §3, 42_load_store.md
§1, 43_system.md §2. -/
def Obligations.MemoryFrame : Prop :=
  ∀ (i : Instr) (s t : State), s.mem.wf = true → exec i s = .next t →
    ∀ a : Nat,
      (∀ rs1 imm n base, i.storeForm = some (rs1, imm, n) → HasX s rs1 base →
        a < (base + imm).toNat ∨ (base + imm).toNat + n ≤ a) →
      (i.isEcall = true → HasX s a7 63 → ∀ buf len, HasX s a1 buf → HasX s a2 len →
        a < buf.toNat ∨ buf.toNat + len.toNat ≤ a) →
      t.mem.read a = s.mem.read a

/-- For every instruction, when exec answers a next state: the parameters are unchanged (fixed configuration), and
unless the instruction is ECALL the host log and the model's counter of host draws are unchanged; unless it is ECALL
or raises a stop outcome, run is unchanged. O25, derived; 10_state.md §6, 10_state.md §7. -/
def Obligations.HostStateFrame : Prop :=
  ∀ (i : Instr) (s t : State), exec i s = .next t →
    t.params = s.params ∧
    (i.isEcall = false → t.hostLog = s.hostLog ∧ t.hostDraws = s.hostDraws ∧
      (t.run = s.run ∨ ∃ r, t.run = .faulted r))

/-- Every instruction outside the control-transfer family that goes on sets pc to pc + 4; one that ends the run keeps
the pc. O26; R27. -/
def Obligations.NextPc : Prop :=
  (∀ (s : State) (i : Instr), Runs s i → step s = exec i s) ∧
  ∀ (i : Instr) (s t : State), s.run = .running → exec i s = .next t →
    (t.run = .running → i.isControlTransfer = false → t.pc = s.pc + 4) ∧
    (t.run ≠ .running → t.pc = s.pc)

/-- For every canonical memory: reads of 1, 2 and 4 bytes are the bytes, the lowest least significant, zero-extended;
writing the n low bytes of v at a leaves a canonical memory in which byte a + k is byte k of v and every other byte
reads as before; after a word v is written at a, LBU's byte at a + 3 is its top byte and LHU's halfword at a + 1 its
middle two. InRange is computed over the integers: an access that would cross 2^32 is out of range whatever MEM_SIZE.
The spec marks the mixed-width law as derived (20_memory.md §3). O27, derived; 20_memory.md §1, 20_memory.md §3. -/
def Obligations.MemoryAccess : Prop :=
  (∀ (m : Memory) (a : Nat),
    m.read8 a = (m.read a).setWidth 32 ∧ m.read16 a = (halfAt m a).setWidth 32 ∧ m.read32 a = wordAt m a) ∧
  (∀ (m : Memory) (a n : Nat) (v : Word), m.wf = true → StoredAt m (m.writeBytes a (bytesOf v n)) a n v) ∧
  (∀ (m : Memory) (a : Nat) (v : Word), m.wf = true →
    (m.writeBytes a (bytesOf v 4)).read32 a = v ∧
    (m.writeBytes a (bytesOf v 4)).read8 (a + 3) = (v.extractLsb' 24 8).setWidth 32 ∧
    (m.writeBytes a (bytesOf v 4)).read16 (a + 1) = (v.extractLsb' 8 16).setWidth 32) ∧
  ∀ (s : State) (addr : Word) (n : Nat),
    (s.InRange addr n ↔ addr.toNat + n ≤ s.params.memSize) ∧
    (s.params.wf → 2 ^ 32 < addr.toNat + n → ¬ s.InRange addr n)

/-- If SW stores to pc + 4, with the pc a multiple of 4, no wrap at the top of the address space and canonical memory,
then the state it leaves fetches exactly the stored word. The spec marks this as derived from its ordering rule
(20_memory.md §5). O28, derived; 20_memory.md §5, 70_reset_and_hazards.md §3. -/
def Obligations.StoreSeenByNextFetch : Prop :=
  ∀ (s : State) (rs1 rs2 : RegIdx) (imm base data : Word), s.mem.wf = true → s.pc.toNat % 4 = 0 →
    HasX s rs1 base → HasX s rs2 data → base + imm = s.pc + 4 → (s.pc + 4).toNat + 4 ≤ s.params.memSize →
    ∃ t, exec (.sw rs1 rs2 imm) s = .next t ∧ t.fetch = .ok data

/-- ADD, SUB, SLL, SLT, SLTU, XOR, SRL, SRA, OR and AND: encoding, result, next pc and UnwrittenRegister. O29; R161,
R162, R163, R164, R165, R166, R167, R168, R169, R170. -/
def Obligations.RegisterRegister : Prop :=
  RegRegRule 0x00000033 .add (fun a b => a + b) ∧
  RegRegRule 0x40000033 .sub (fun a b => a - b) ∧
  RegRegRule 0x00001033 .sll (fun a b => a <<< (b.toNat % 32)) ∧
  RegRegRule 0x00002033 .slt (fun a b => if a.toInt < b.toInt then 1 else 0) ∧
  RegRegRule 0x00003033 .sltu (fun a b => if a.toNat < b.toNat then 1 else 0) ∧
  RegRegRule 0x00004033 .xor (fun a b => a ^^^ b) ∧
  RegRegRule 0x00005033 .srl (fun a b => a >>> (b.toNat % 32)) ∧
  RegRegRule 0x40005033 .sra (fun a b => a.sshiftRight (b.toNat % 32)) ∧
  RegRegRule 0x00006033 .or (fun a b => a ||| b) ∧
  RegRegRule 0x00007033 .and (fun a b => a &&& b)

/-- ADDI, SLTI, SLTIU, XORI, ORI, ANDI, SLLI, SRLI and SRAI: encoding, result, next pc and UnwrittenRegister. O30;
R171, R172, R173, R174, R175, R176, R177, R178, R179. -/
def Obligations.RegisterImmediate : Prop :=
  RegImmRule 0x00000013 .addi (fun a imm => a + imm) ∧
  RegImmRule 0x00002013 .slti (fun a imm => if a.toInt < imm.toInt then 1 else 0) ∧
  RegImmRule 0x00003013 .sltiu (fun a imm => if a.toNat < imm.toNat then 1 else 0) ∧
  RegImmRule 0x00004013 .xori (fun a imm => a ^^^ imm) ∧
  RegImmRule 0x00006013 .ori (fun a imm => a ||| imm) ∧
  RegImmRule 0x00007013 .andi (fun a imm => a &&& imm) ∧
  RegLoRule 0x00001013 .slli (fun a n v => v = a <<< n.toNat) ∧
  RegLoRule 0x00005013 .srli (fun a n v => v = a >>> n.toNat) ∧
  RegLoRule 0x40005013 .srai (fun a n v => v = a.sshiftRight n.toNat)

/-- LUI and AUIPC: encoding, result and next pc, in every state. O31; R180, R181. -/
def Obligations.UpperImmediate : Prop :=
  Spells 0x00000037 0x0000007F (fun w => .lui (wRd w) (wImmU w)) ∧
  Spells 0x00000017 0x0000007F (fun w => .auipc (wRd w) (wImmU w)) ∧
  ∀ (s : State) (rd : RegIdx) (imm : Word),
    GoesX (.lui rd imm) s rd imm ∧ GoesX (.auipc rd imm) s rd (s.pc + imm)

/-- BEQ, BNE, BLT, BGE, BLTU and BGEU: encoding, condition, next pc and UnwrittenRegister. O32; R201, R202, R203,
R204, R205, R206. -/
def Obligations.ConditionalBranches : Prop :=
  BranchRule 0x00000063 .beq (fun a b => a = b) ∧
  BranchRule 0x00001063 .bne (fun a b => a ≠ b) ∧
  BranchRule 0x00004063 .blt (fun a b => a.toInt < b.toInt) ∧
  BranchRule 0x00005063 .bge (fun a b => b.toInt ≤ a.toInt) ∧
  BranchRule 0x00006063 .bltu (fun a b => a.toNat < b.toNat) ∧
  BranchRule 0x00007063 .bgeu (fun a b => b.toNat ≤ a.toNat)

/-- JAL and JALR: encoding, link, target, and the next fetch after a target of 2 mod 4. O33; R207, R208. -/
def Obligations.Jumps : Prop :=
  Spells 0x0000006F 0x0000007F (fun w => .jal (wRd w) (wImmJ w)) ∧
  Spells 0x00000067 0x0000007F (fun w => .jalr (wRd w) (wF3 w) (wRs1 w) (wImmI w)) ∧
  (∀ (s : State) (rd : RegIdx) (imm : Word),
    exec (.jal rd imm) s = .next { s with x := putX s rd (s.pc + 4), pc := s.pc + imm }) ∧
  (∀ (s : State) (rd : RegIdx) (f3 : BitVec 3) (rs1 : RegIdx) (imm : Word),
    (∀ a, HasX s rs1 a → exec (.jalr rd f3 rs1 imm) s =
      .next { s with x := putX s rd (s.pc + 4), pc := ((a + imm).extractLsb' 1 31 ++ 0#1 : BitVec 32) }) ∧
    (LacksX s rs1 → Stops (.jalr rd f3 rs1 imm) s (.unwrittenRegister .X rs1))) ∧
  ∀ (s t : State) (rd rs1 : RegIdx) (f3 : BitVec 3) (imm : Word), t.run = .running → t.pc.toNat % 4 ≠ 0 →
    (exec (.jal rd imm) s = .next t ∨ exec (.jalr rd f3 rs1 imm) s = .next t) →
    step t = .next (stopped t .fetchMisaligned none)

/-- LB, LH, LW, LBU and LHU: encoding, checks in order, loaded value, next pc, for every rd, x0 included. O34; R221,
R222, R223, R224, R225, R230. -/
def Obligations.Loads : Prop :=
  LoadRule 0x00000003 .lb 1 (fun m a => (m.read a).signExtend 32) ∧
  LoadRule 0x00001003 .lh 2 (fun m a => (halfAt m a).signExtend 32) ∧
  LoadRule 0x00002003 .lw 4 wordAt ∧
  LoadRule 0x00004003 .lbu 1 (fun m a => (m.read a).setWidth 32) ∧
  LoadRule 0x00005003 .lhu 2 (fun m a => (halfAt m a).setWidth 32)

/-- SB, SH and SW: encoding, checks in order, bytes written, no other byte changed, next pc. O35; R226, R227, R228. -/
def Obligations.Stores : Prop :=
  StoreRule 0x00000023 .sb 1 ∧ StoreRule 0x00001023 .sh 2 ∧ StoreRule 0x00002023 .sw 4

/-- FENCE only advances the pc; EBREAK always stops the run with Breakpoint at its own pc. O36; R240, R248. -/
def Obligations.FenceAndBreakpoint : Prop :=
  Spells 0x0000000F 0x0000007F (fun w => .fence (wRd w) (wF3 w) (wRs1 w) (wImmI w)) ∧
  Spells 0x00100073 0xFFF0007F (fun w => .ebreak (wRd w) (wF3 w) (wRs1 w)) ∧
  ∀ (s : State) (rd : RegIdx) (f3 : BitVec 3) (rs1 : RegIdx) (imm : Word),
    exec (.fence rd f3 rs1 imm) s = .next { s with pc := s.pc + 4 } ∧
    Stops (.ebreak rd f3 rs1) s .breakpoint ∧
    step (stopped s .breakpoint (some (encode (.ebreak rd f3 rs1)))) = .fault .notRunning

/-- ECALL with a7 = 93 halts with a0 as the exit code and changes nothing else. O37; R242. -/
def Obligations.EcallExit : Prop :=
  (∀ (s : State) (rd : RegIdx) (f3 : BitVec 3) (rs1 : RegIdx), HasX s a7 93 →
    (∀ code, HasX s a0 code →
      exec (.ecall rd f3 rs1) s = .next { s with run := .halted code } ∧
      (RunState.halted code).exitCode = some code.toInt) ∧
    (LacksX s a0 → Stops (.ecall rd f3 rs1) s (.unwrittenRegister .X a0))) ∧
  (RunState.halted 42).exitCode = some 42 ∧ (RunState.halted 0xFFFFFFFF).exitCode = some (-1)

/-- ECALL with a7 = 64: checks in order, then the buffer's bytes logged, a host draw in a0, pc + 4. O38; R243. -/
def Obligations.EcallWrite : Prop :=
  HostCallStops 64 1 ∧
  ∀ (s : State) (rd : RegIdx) (f3 : BitVec 3) (rs1 : RegIdx) (buf len : Word),
    HasX s a7 64 → HasX s a0 1 → HasX s a1 buf → HasX s a2 len → BufferOk s buf len →
    ∃ r draws, exec (.ecall rd f3 rs1) s = .next { s with
      hostLog := s.hostLog ++ [.write 1 ((List.range len.toNat).map fun k => s.mem.read (buf.toNat + k))]
      hostDraws := draws
      x := putX s a0 r
      pc := s.pc + 4 }

/-- ECALL with a7 = 63: checks in order, then at most len host bytes at a1, the event logged, a host draw in a0, pc +
4. O39; R244. -/
def Obligations.EcallRead : Prop :=
  HostCallStops 63 0 ∧
  ∀ (s : State) (rd : RegIdx) (f3 : BitVec 3) (rs1 : RegIdx) (buf len : Word), s.mem.wf = true →
    HasX s a7 63 → HasX s a0 0 → HasX s a1 buf → HasX s a2 len → BufferOk s buf len →
    ∃ (m : Memory) (bytes : List Byte) (r : Word) (draws : Nat),
      bytes.length ≤ len.toNat ∧ m.wf = true ∧
      (∀ c, m.read c = if buf.toNat ≤ c ∧ c < buf.toNat + bytes.length then bytes.getD (c - buf.toNat) 0
        else s.mem.read c) ∧
      exec (.ecall rd f3 rs1) s = .next { s with
        mem := m
        hostLog := s.hostLog ++ [.read 0 len.toNat bytes]
        hostDraws := draws
        x := putX s a0 r
        pc := s.pc + 4 }

/-- ECALL's encoding and its checks: a7 first, then the call number, then the registers, the fd, the range. O40; R246,
R247. -/
def Obligations.EcallUnsupported : Prop :=
  Spells 0x00000073 0xFFF0007F (fun w => .ecall (wRd w) (wF3 w) (wRs1 w)) ∧
  (∀ (s : State) (rd : RegIdx) (f3 : BitVec 3) (rs1 : RegIdx),
    (LacksX s a7 → Stops (.ecall rd f3 rs1) s (.unwrittenRegister .X a7)) ∧
    (∀ n, HasX s a7 n → n ≠ 93 → n ≠ 64 → n ≠ 63 → Stops (.ecall rd f3 rs1) s (.unsupportedEcall n none)) ∧
    (HasX s a7 57 → Stops (.ecall rd f3 rs1) s (.unsupportedEcall 57 none)) ∧
    (HasX s a7 93 → LacksX s a0 → Stops (.ecall rd f3 rs1) s (.unwrittenRegister .X a0)) ∧
    (∀ code, HasX s a7 93 → HasX s a0 code → ∃ t, exec (.ecall rd f3 rs1) s = .next t ∧ t.run = .halted code) ∧
    (∀ n fd buf len, (n = 64 ∧ fd = 1 ∨ n = 63 ∧ fd = 0) → HasX s a7 n → HasX s a0 fd → HasX s a1 buf →
      HasX s a2 len → BufferOk s buf len →
      ∃ t, exec (.ecall rd f3 rs1) s = .next t ∧ t.run = s.run ∧ ∃ e, t.hostLog = s.hostLog ++ [e])) ∧
  HostCallStops 64 1 ∧ HostCallStops 63 0

/-- MUL, MULH, MULHSU, MULHU, DIV, DIVU, REM and REMU: encoding, result with every corner, next pc, UnwrittenRegister.
O41; R261, R262, R263, R264, R265, R266, R267, R268. -/
def Obligations.MultiplyDivide : Prop :=
  RegRegRule 0x02000033 .mul (fun a b => BitVec.ofInt 32 (a.toInt * b.toInt)) ∧
  RegRegRule 0x02001033 .mulh (fun a b => BitVec.ofInt 32 ⌊(a.toInt * b.toInt : ℚ) / 2 ^ 32⌋) ∧
  RegRegRule 0x02002033 .mulhsu (fun a b => BitVec.ofInt 32 ⌊(a.toInt * b.toNat : ℚ) / 2 ^ 32⌋) ∧
  RegRegRule 0x02003033 .mulhu (fun a b => BitVec.ofInt 32 ⌊(a.toNat * b.toNat : ℚ) / 2 ^ 32⌋) ∧
  RegRegRule 0x02004033 .div (fun a b =>
    if b = 0#32 then 0xFFFFFFFF
    else if a = 0x80000000#32 ∧ b = 0xFFFFFFFF#32 then 0x80000000
    else BitVec.ofInt 32 (a.toInt.sign * b.toInt.sign * (a.toInt.natAbs / b.toInt.natAbs : ℕ))) ∧
  RegRegRule 0x02005033 .divu (fun a b =>
    if b = 0#32 then 0xFFFFFFFF else BitVec.ofNat 32 (a.toNat / b.toNat)) ∧
  RegRegRule 0x02006033 .rem (fun a b =>
    if b = 0#32 then a
    else if a = 0x80000000#32 ∧ b = 0xFFFFFFFF#32 then 0
    else BitVec.ofInt 32 (a.toInt - b.toInt * (a.toInt.sign * b.toInt.sign * (a.toInt.natAbs / b.toInt.natAbs : ℕ)))) ∧
  RegRegRule 0x02007033 .remu (fun a b =>
    if b = 0#32 then a else BitVec.ofNat 32 (a.toNat % b.toNat))

/-- For b not 0 and not (INT32_MIN, -1): DIV·b + REM = a over the integers and |REM| < |b|; DIVU·b + REMU = a and REMU
< b; division by 0 gives 0xFFFFFFFF and a; DIV(INT32_MIN, -1)·(-1) + REM = INT32_MIN modulo 2^32; each high word times
2^32 plus MUL is the exact product (MULH and MULHSU read signed, MULHU unsigned; MUL read unsigned); MUL, MULH and
MULHU are commutative and MULHSU is not. O42, derived; 44_multiply_divide.md §4. -/
def Obligations.MultiplyDivideLaws : Prop :=
  (∀ a b : Word, b ≠ 0#32 → ¬ (a = 0x80000000#32 ∧ b = 0xFFFFFFFF#32) →
    (divS a b).toInt * b.toInt + (remS a b).toInt = a.toInt ∧ |(remS a b).toInt| < |b.toInt|) ∧
  (∀ a b : Word, b ≠ 0#32 →
    (divU a b).toNat * b.toNat + (remU a b).toNat = a.toNat ∧ (remU a b).toNat < b.toNat) ∧
  (∀ a : Word, divS a 0 = 0xFFFFFFFF ∧ divU a 0 = 0xFFFFFFFF ∧ remS a 0 = a ∧ remU a 0 = a) ∧
  divS 0x80000000 0xFFFFFFFF * 0xFFFFFFFF + remS 0x80000000 0xFFFFFFFF = 0x80000000 ∧
  (∀ a b : Word,
    (mulHighU a b).toNat * 2 ^ 32 + (mulLow a b).toNat = a.toNat * b.toNat ∧
    (mulHigh a b).toInt * 2 ^ 32 + (mulLow a b).toNat = a.toInt * b.toInt ∧
    (mulHighSU a b).toInt * 2 ^ 32 + (mulLow a b).toNat = a.toInt * b.toNat) ∧
  (∀ a b : Word, mulLow a b = mulLow b a ∧ mulHigh a b = mulHigh b a ∧ mulHighU a b = mulHighU b a) ∧
  ∃ a b : Word, mulHighSU a b ≠ mulHighSU b a

/-- rm 0, 4 and 7 are RNE, 1 RTZ, 2 RDN, 3 RUP; 5 and 6 raise ReservedRoundingMode before any register is read. O43;
R280. -/
def Obligations.RoundingModes : Prop :=
  (∀ rm : BitVec 3,
    (∀ m, ModeOf rm m → roundMode rm = .ok m) ∧ (Reserved rm → roundMode rm = .error (.reservedRoundingMode rm))) ∧
  (∀ (s : State) (rd rs1 rs2 rs3 : RegIdx) (rm : BitVec 3) (fmt : BitVec 2), Reserved rm →
    ∀ i ∈ [Instr.faddS rd rs1 rs2 rm, .fsubS rd rs1 rs2 rm, .fmulS rd rs1 rs2 rm, .fdivS rd rs1 rs2 rm,
      .fsqrtS rd rs1 rs2 rm, .fmaddS rd rs1 rs2 rs3 rm fmt, .fmsubS rd rs1 rs2 rs3 rm fmt,
      .fnmsubS rd rs1 rs2 rs3 rm fmt, .fnmaddS rd rs1 rs2 rs3 rm fmt], Stops i s (.reservedRoundingMode rm)) ∧
  (∀ (s : State) (rd rs1 rs2 rs3 : RegIdx) (rm : BitVec 3) (fmt : BitVec 2) (m : RoundMode) (a b c : Word),
    ModeOf rm m → HasF s rs1 a → HasF s rs2 b → HasF s rs3 c →
    GoesF (.faddS rd rs1 rs2 rm) s rd (fadd m a b) ∧ GoesF (.fsubS rd rs1 rs2 rm) s rd (fsub m a b) ∧
    GoesF (.fmulS rd rs1 rs2 rm) s rd (fmul m a b) ∧ GoesF (.fdivS rd rs1 rs2 rm) s rd (fdiv m a b) ∧
    GoesF (.fsqrtS rd rs1 rs2 rm) s rd (fsqrt m a) ∧
    GoesF (.fmaddS rd rs1 rs2 rs3 rm fmt) s rd (fmadd m a b c) ∧
    GoesF (.fmsubS rd rs1 rs2 rs3 rm fmt) s rd (fmsub m a b c) ∧
    GoesF (.fnmsubS rd rs1 rs2 rs3 rm fmt) s rd (fnmsub m a b c) ∧
    GoesF (.fnmaddS rd rs1 rs2 rs3 rm fmt) s rd (fnmadd m a b c)) ∧
  ∀ (s : State) (rd rs1 : RegIdx) (rm : BitVec 3),
    (∀ a, HasF s rs1 a → GoesX (.fcvtWS rd rs1 rm) s rd (fcvtToW s.params a) ∧
      GoesX (.fcvtWUS rd rs1 rm) s rd (fcvtToWU s.params a)) ∧
    ∀ v, HasX s rs1 v → GoesF (.fcvtSW rd rs1 rm) s rd (fcvtOfW v) ∧ GoesF (.fcvtSWU rd rs1 rm) s rd (fcvtOfWU v)

/-- FADD.S, FSUB.S, FMUL.S, FDIV.S and FSQRT.S: encoding, the IEEE result rounded once, stop outcomes. O44; R284,
R285, R286, R287, R288. -/
def Obligations.FloatArithmetic : Prop :=
  SpellsRm 0x00000053 .faddS ∧ FloatRm .faddS (fun m a b v => IsSum .fadd [a, b] m a b v) ∧
  SpellsRm 0x08000053 .fsubS ∧ FloatRm .fsubS (fun m a b v => IsSum .fsub [a, b] m a (negated b) v) ∧
  SpellsRm 0x10000053 .fmulS ∧ FloatRm .fmulS IsProduct ∧
  SpellsRm 0x18000053 .fdivS ∧ FloatRm .fdivS IsQuotient ∧
  SpellsRm 0x58000053 .fsqrtS ∧ FloatRm1 .fsqrtS IsRoot

/-- FMADD.S, FMSUB.S, FNMSUB.S and FNMADD.S: encoding, the fused result rounded once, stop outcomes. O45; R289, R290,
R291, R292. -/
def Obligations.FusedMultiplyAdd : Prop :=
  SpellsFused 0x00000043 .fmaddS ∧ FusedRm .fmaddS (fun m a b c v => IsFused .fmadd [a, b, c] m a b c v) ∧
  SpellsFused 0x00000047 .fmsubS ∧ FusedRm .fmsubS (fun m a b c v => IsFused .fmsub [a, b, c] m a b (negated c) v) ∧
  SpellsFused 0x0000004B .fnmsubS ∧
    FusedRm .fnmsubS (fun m a b c v => IsFused .fnmsub [a, b, c] m (negated a) b c v) ∧
  SpellsFused 0x0000004F .fnmaddS ∧
    FusedRm .fnmaddS (fun m a b c v => IsFused .fnmadd [a, b, c] m (negated a) b (negated c) v)

/-- Where the IEEE result of an arithmetic instruction is a NaN, the result is nanResult(op, operands), and it is a
NaN. O46; R281. -/
def Obligations.NanResults : Prop :=
  ∀ (m : RoundMode) (a b c : Word),
    (SumIsNaN a b → OpenNaN .fadd [a, b] (fadd m a b)) ∧
    (SumIsNaN a (negated b) → OpenNaN .fsub [a, b] (fsub m a b)) ∧
    (IsNaN a ∨ IsNaN b ∨ (IsZero a ∧ IsInf b) ∨ (IsInf a ∧ IsZero b) → OpenNaN .fmul [a, b] (fmul m a b)) ∧
    (IsNaN a ∨ IsNaN b ∨ (IsZero a ∧ IsZero b) ∨ (IsInf a ∧ IsInf b) → OpenNaN .fdiv [a, b] (fdiv m a b)) ∧
    (IsNaN a ∨ (signOf a = true ∧ ¬ IsZero a) → OpenNaN .fsqrt [a] (fsqrt m a)) ∧
    (FusedIsNaN a b c → OpenNaN .fmadd [a, b, c] (fmadd m a b c)) ∧
    (FusedIsNaN a b (negated c) → OpenNaN .fmsub [a, b, c] (fmsub m a b c)) ∧
    (FusedIsNaN (negated a) b c → OpenNaN .fnmsub [a, b, c] (fnmsub m a b c)) ∧
    (FusedIsNaN (negated a) b (negated c) → OpenNaN .fnmadd [a, b, c] (fnmadd m a b c))

/-- The IEEE conventions of 45_float.md §1: an exact zero sum is +0, or -0 under RDN, unless both zeros have one sign;
a product or quotient has the XOR sign, zeros and infinities too; a non-zero finite x over ±0 is an infinity and a
finite x over ±∞ a zero, with the XOR sign; ∞ plus or minus a finite value is that ∞; sqrt(+∞) = +∞ and sqrt(±0) = ±0;
and ∞ over ±0 is an infinity with the XOR sign, which is IEEE's and no bullet of the rule (log entry 9). O47, derived;
45_float.md §1, the IEEE conventions. -/
def Obligations.ZerosAndInfinities : Prop :=
  ∀ (m : RoundMode) (a b : Word),
    (IsFinite a → IsFinite b → val a + val b = 0 → IsZeroSum m (signOf a) (signOf b) (fadd m a b)) ∧
    (IsFinite a → IsFinite b → val a * val b = 0 → fmul m a b = signedZero (signOf a != signOf b)) ∧
    (IsFinite a → ¬ IsZero a → IsInf b → fmul m a b = signedInf (signOf a != signOf b)) ∧
    (IsFinite a → ¬ IsZero a → IsZero b → fdiv m a b = signedInf (signOf a != signOf b)) ∧
    (IsFinite a → IsInf b → fdiv m a b = signedZero (signOf a != signOf b)) ∧
    (IsZero a → IsFinite b → ¬ IsZero b → fdiv m a b = signedZero (signOf a != signOf b)) ∧
    (IsInf a → IsFinite b → fdiv m a b = signedInf (signOf a != signOf b)) ∧
    (IsInf a → IsFinite b → fadd m a b = a ∧ fsub m a b = a ∧ fadd m b a = a ∧ fsub m b a = negated a) ∧
    (IsInf a → signOf a = false → fsqrt m a = a) ∧
    (IsZero a → fsqrt m a = a)

/-- FSGNJ.S, FSGNJN.S, FSGNJX.S, FMV.X.W and FMV.W.X: encoding, the bits moved, stop outcomes. O48; R293, R294, R295,
R302, R303. -/
def Obligations.BitPatternMoves : Prop :=
  FloatFRule 0x20000053 .fsgnjS (fun a b v => v = (b.extractLsb' 31 1 ++ a.extractLsb' 0 31 : BitVec 32)) ∧
  FloatFRule 0x20001053 .fsgnjnS (fun a b v => v = (~~~ b.extractLsb' 31 1 ++ a.extractLsb' 0 31 : BitVec 32)) ∧
  FloatFRule 0x20002053 .fsgnjxS
    (fun a b v => v = ((a.extractLsb' 31 1 ^^^ b.extractLsb' 31 1) ++ a.extractLsb' 0 31 : BitVec 32)) ∧
  Spells 0xE0000053 0xFE00707F (fun w => .fmvXW (wRd w) (wRs1 w) (wRs2 w)) ∧
  FloatToX .fmvXW (fun _ a v => v = a) ∧
  Spells 0xF0000053 0xFE00707F (fun w => .fmvWX (wRd w) (wRs1 w) (wRs2 w)) ∧
  XToFloat .fmvWX (fun a v => v = a)

/-- FMIN.S and FMAX.S: encoding, result with the NaN and signed-zero cases, stop outcomes. O49; R296, R297. -/
def Obligations.MinimumMaximum : Prop :=
  FloatFRule 0x28000053 .fminS (IsMinMax .fmin (fun x y => x ≤ y)) ∧
  FloatFRule 0x28001053 .fmaxS (IsMinMax .fmax (fun x y => y ≤ x))

/-- FCVT.W.S and FCVT.WU.S: encoding, nearest integer clamped, NaN boundary, whatever rm. O50; R298, R299. -/
def Obligations.FloatToInteger : Prop :=
  Spells 0xC0000053 0xFFF0007F (fun w => .fcvtWS (wRd w) (wRs1 w) (wF3 w)) ∧
  FloatToX .fcvtWS (fun s a v =>
    (IsNaN a → s.params.fcvtNaNW = .lower → v = 0x80000000) ∧ (IsNaN a → s.params.fcvtNaNW = .upper → v = 0x7FFFFFFF) ∧
    IsClamped s.params.fcvtTieBreak (-2 ^ 31) (2 ^ 31 - 1) a v) ∧
  Spells 0xC0100053 0xFFF0007F (fun w => .fcvtWUS (wRd w) (wRs1 w) (wF3 w)) ∧
  FloatToX .fcvtWUS (fun s a v =>
    (IsNaN a → s.params.fcvtNaNWU = .lower → v = 0x00000000) ∧ (IsNaN a → s.params.fcvtNaNWU = .upper → v = 0xFFFFFFFF) ∧
    IsClamped s.params.fcvtTieBreak 0 (2 ^ 32 - 1) a v)

/-- FCVT.S.W and FCVT.S.WU: encoding, the integer rounded to nearest-even, whatever rm. O51; R300, R301. -/
def Obligations.IntegerToFloat : Prop :=
  Spells 0xD0000053 0xFFF0007F (fun w => .fcvtSW (wRd w) (wRs1 w) (wF3 w)) ∧
  XToFloat .fcvtSW (fun a v => (a.toInt = 0 → v = 0#32) ∧ (a.toInt ≠ 0 → RoundsTo .rne (a.toInt : ℝ) v)) ∧
  Spells 0xD0100053 0xFFF0007F (fun w => .fcvtSWU (wRd w) (wRs1 w) (wF3 w)) ∧
  XToFloat .fcvtSWU (fun a v => (a.toNat = 0 → v = 0#32) ∧ (a.toNat ≠ 0 → RoundsTo .rne (a.toNat : ℝ) v))

/-- FEQ.S, FLT.S, FLE.S and FCLASS.S: encoding, result, stop outcomes. O52; R304, R305, R306, R307. -/
def Obligations.CompareAndClassify : Prop :=
  CompareRule 0xA0002053 .feqS (fun x y => x = y) ∧
  CompareRule 0xA0001053 .fltS (fun x y => x < y) ∧
  CompareRule 0xA0000053 .fleS (fun x y => x ≤ y) ∧
  Spells 0xE0001053 0xFE00707F (fun w => .fclassS (wRd w) (wRs1 w) (wRs2 w)) ∧
  FloatToX .fclassS (fun _ a v =>
    (a = 0xFF800000 → v = 0x001) ∧
    (signOf a = true → 1 ≤ expOf a → expOf a ≤ 254 → v = 0x002) ∧
    (signOf a = true → expOf a = 0 → fracOf a ≠ 0 → v = 0x004) ∧
    (a = 0x80000000 → v = 0x008) ∧
    (a = 0x00000000 → v = 0x010) ∧
    (signOf a = false → expOf a = 0 → fracOf a ≠ 0 → v = 0x020) ∧
    (signOf a = false → 1 ≤ expOf a → expOf a ≤ 254 → v = 0x040) ∧
    (a = 0x7F800000 → v = 0x080) ∧
    (expOf a = 255 → fracOf a ≠ 0 → a.getLsbD 22 = false → v = 0x100) ∧
    (expOf a = 255 → a.getLsbD 22 = true → v = 0x200))

/-- FSGNJX(x, x) clears bit 31, FSGNJX(x, -x) sets it and FSGNJN(x, x) flips it; FEQ(x, x) = 0 exactly when x is a
NaN; for non-NaN a and b exactly one of FLT(a, b), FEQ(a, b), FLT(b, a) holds and FLE is FLT or FEQ; FCLASS sets
exactly one of bits 0..9; for |signed(n)| <= 2^24, FCVT.S.W(n) is exact and FCVT.W.S(FCVT.S.W(n)) = n, for every tie
rule; FMIN and FMAX give no NaN while an operand is none; FMV.W.X from x[rs1] to f[rd] and then FMV.X.W from f[rd] to
any x[q] both answer a next state, and x[q] then holds the original bits of x[rs1], or 0 for q = x0. O53, derived;
45_float.md §9. -/
def Obligations.FloatLaws : Prop :=
  (∀ x : Word, fsgnjx x x = x &&& 0x7FFFFFFF ∧ fsgnjx x (negated x) = x ||| 0x80000000 ∧
    fsgnjn x x = x ^^^ 0x80000000 ∧ (fEq x x = false ↔ IsNaN x) ∧
    ∃ k, k < 10 ∧ fclass x = 1#32 <<< k) ∧
  (∀ a b : Word, ¬ IsNaN a → ¬ IsNaN b →
    ((fLt a b = true ∧ fEq a b = false ∧ fLt b a = false) ∨ (fLt a b = false ∧ fEq a b = true ∧ fLt b a = false) ∨
      (fLt a b = false ∧ fEq a b = false ∧ fLt b a = true)) ∧
    fLe a b = (fLt a b || fEq a b)) ∧
  (∀ a b : Word, ¬ (IsNaN a ∧ IsNaN b) → ¬ IsNaN (fmin a b) ∧ ¬ IsNaN (fmax a b)) ∧
  (∀ n : Word, |n.toInt| ≤ 2 ^ 24 →
    IsFinite (fcvtOfW n) ∧ val (fcvtOfW n) = n.toInt ∧ ∀ p : Config.Params, fcvtToW p (fcvtOfW n) = n) ∧
  ∀ (s : State) (rd rs1 q k j : RegIdx) (v : Word), HasX s rs1 v →
    ∃ t u, exec (.fmvWX rd rs1 k) s = .next t ∧ exec (.fmvXW q rd j) t = .next u ∧
      HasX u q (if q = 0#5 then 0#32 else v)

/-- ANDN, ORN, XNOR, MIN, MAX, MINU, MAXU, ROL and ROR: encoding, result, next pc and UnwrittenRegister. O54; R341,
R342, R343, R347, R348, R349, R350, R354, R355. -/
def Obligations.BitManipulationTwoRegisters : Prop :=
  RegRegRule 0x40007033 .andn (fun a b => a &&& ~~~b) ∧
  RegRegRule 0x40006033 .orn (fun a b => a ||| ~~~b) ∧
  RegRegRule 0x40004033 .xnor (fun a b => ~~~(a ^^^ b)) ∧
  RegRegRule 0x0A004033 .min (fun a b => if a.toInt < b.toInt then a else b) ∧
  RegRegRule 0x0A006033 .max (fun a b => if a.toInt < b.toInt then b else a) ∧
  RegRegRule 0x0A005033 .minu (fun a b => if a.toNat < b.toNat then a else b) ∧
  RegRegRule 0x0A007033 .maxu (fun a b => if a.toNat < b.toNat then b else a) ∧
  RegRegRule 0x60001033 .rol (fun a b => a.rotateLeft (b.toNat % 32)) ∧
  RegRegRule 0x60005033 .ror (fun a b => a.rotateRight (b.toNat % 32))

/-- CLZ, CTZ, CPOP, SEXT.B, SEXT.H, ZEXT.H, RORI, ORC.B and REV8: encoding, result, next pc and UnwrittenRegister.
O55; R344, R345, R346, R351, R352, R353, R356, R357, R358. -/
def Obligations.BitManipulationOneRegister : Prop :=
  UnaryRule 0x60001013 .clz (fun a v => (a = 0#32 → v = 32) ∧
    ∀ k, k < 32 → a.getLsbD k = true → (∀ j, k < j → a.getLsbD j = false) → v = BitVec.ofNat 32 (31 - k)) ∧
  UnaryRule 0x60101013 .ctz (fun a v => (a = 0#32 → v = 32) ∧
    ∀ k, k < 32 → a.getLsbD k = true → (∀ j, j < k → a.getLsbD j = false) → v = BitVec.ofNat 32 k) ∧
  UnaryRule 0x60201013 .cpop (fun a v => v = BitVec.ofNat 32 ((Finset.range 32).filter fun k => a.getLsbD k).card) ∧
  UnaryRule 0x60401013 .sextB (fun a v => v = (a.extractLsb' 0 8).signExtend 32) ∧
  UnaryRule 0x60501013 .sextH (fun a v => v = (a.extractLsb' 0 16).signExtend 32) ∧
  (Spells 0x08004033 0xFE00707F (fun w => .zextH (wRd w) (wRs1 w) (wRs2 w)) ∧
    OneReg .zextH (fun a _ v => v = (a.extractLsb' 0 16).setWidth 32)) ∧
  RegLoRule 0x60005013 .rori (fun a n v => v = a.rotateRight n.toNat) ∧
  RegLoRule 0x28005013 .orcB (fun a _ v => ∀ k, k < 4 →
    v.extractLsb' (8 * k) 8 = if a.extractLsb' (8 * k) 8 = 0#8 then 0x00#8 else 0xFF#8) ∧
  RegLoRule 0x68005013 .rev8 (fun a _ v => ∀ k, k < 4 →
    v.extractLsb' (8 * k) 8 = a.extractLsb' (8 * (3 - k)) 8) ∧
  ∀ w : Word, w.extractLsb' 0 7 = 0x13#7 → wF3 w = 5#3 → w.extractLsb' 25 7 = 0b0110001#7 →
    decode w = .error .unknownInstruction

/-- For every a: CLZ + CTZ + CPOP = 32 exactly when a is not 0 and its set bits are contiguous, and 64 for a = 0;
ROL(a, n) = ROR(a, 32 - n) for n in 1..31; ORN(a, b) = NOT ANDN(b, a); REV8 twice is the identity. O56, derived;
46_bitmanip.md §8. -/
def Obligations.BitManipulationLaws : Prop :=
  (∀ a : Word,
    (countLeading a).toNat + (countTrailing a).toNat + (countSet a).toNat = 32 ↔
      ∃ lo hi, lo ≤ hi ∧ hi < 32 ∧ ∀ k, a.getLsbD k = true ↔ lo ≤ k ∧ k ≤ hi) ∧
  (countLeading 0).toNat + (countTrailing 0).toNat + (countSet 0).toNat = 64 ∧
  (∀ (a : Word) (n : BitVec 5), n ≠ 0#5 → rotateLeft a n = rotateRight a (BitVec.ofNat 5 (32 - n.toNat))) ∧
  (∀ (s : State) (rd rs1 rs2 : RegIdx) (a b : Word), HasX s rs1 a → HasX s rs2 b →
    ∃ v, GoesX (.andn rd rs2 rs1) s rd v ∧ GoesX (.orn rd rs1 rs2) s rd (~~~v)) ∧
  ∀ a : Word, reverseBytes (reverseBytes a) = a

/-- Each stop outcome has its code, and every code lies in 1..13. O57, derived; 60_exceptions.md §1. -/
def Obligations.StopReasonCodes : Prop :=
  (∀ r : StopReason, 1 ≤ r.code ∧ r.code ≤ 13) ∧
  StopReason.unknownOpcode.code = 1 ∧ StopReason.unknownInstruction.code = 2 ∧
  StopReason.fetchMisaligned.code = 3 ∧ StopReason.fetchOutOfRange.code = 4 ∧
  (∀ a, (StopReason.loadOutOfRange a).code = 5 ∧ (StopReason.storeOutOfRange a).code = 6 ∧
    (StopReason.loadMisaligned a).code = 7 ∧ (StopReason.storeMisaligned a).code = 8) ∧
  (∀ file index, (StopReason.unwrittenRegister file index).code = 9) ∧
  (∀ rm, (StopReason.reservedRoundingMode rm).code = 10) ∧
  StopReason.breakpoint.code = 11 ∧
  (∀ n fd, (StopReason.unsupportedEcall n fd).code = 12) ∧
  ∀ buf len, (StopReason.ecallOutOfRange buf len).code = 13
end

