-- ==== Sys2Proof/Laws/Encoding.lean ====
section
/-! SUPPORT. Bit fields placed in a word: what a mask leaves of them, and what is read back. -/

namespace Sys2Proof

theorem getLsbD_place {n : Nat} (v : BitVec n) (lo i : Nat) :
    (place v lo).getLsbD i = (decide (i < 32) && decide (lo ≤ i) && v.getLsbD (i - lo)) := by
  unfold place
  by_cases h : lo ≤ i <;> by_cases h2 : i < 32 <;> simp [BitVec.getLsbD_setWidth, h, h2]

/-- A mask over a placed field is the field under its part of the mask. -/
theorem place_and {n : Nat} (v : BitVec n) (lo : Nat) (m : Word) :
    place v lo &&& m = place (v &&& m.extractLsb' lo n) lo := by
  apply BitVec.eq_of_getLsbD_eq
  intro i hi
  simp only [BitVec.getLsbD_and, getLsbD_place, BitVec.getLsbD_extractLsb']
  by_cases h1 : lo ≤ i
  · by_cases h2 : i - lo < n
    · simp [hi, h1, h2]
    · simp [hi, h1, BitVec.getLsbD_of_ge v (i - lo) (by omega)]
  · simp [h1]

/-- The immediate of a shift or unary word, placed as an I immediate, is its two parts placed. -/
theorem place_immOf (hi : BitVec 7) (lo : BitVec 5) :
    place ((immOf hi lo).extractLsb' 0 12) 20 = place hi 25 ||| place lo 20 := by
  apply BitVec.eq_of_getLsbD_eq
  intro i hi
  interval_cases i <;> simp [immOf, sext, place, BitVec.getElem_sshiftRight]

@[simp] theorem place_zero (n lo : Nat) : place (0#n) lo = 0#32 := by simp [place]

end Sys2Proof
end

