-- ==== Sys2Proof/Laws/State.lean ====
section
/-! SUPPORT. What every update of State does to every field, and what a register reads as after it. -/

namespace Sys2Proof.Machine

variable (s : State)

/-! ## The pc and the run state -/

@[simp] theorem State.jump_x (t : Word) : (s.jump t).x = s.x := rfl
@[simp] theorem State.jump_f (t : Word) : (s.jump t).f = s.f := rfl
@[simp] theorem State.jump_pc (t : Word) : (s.jump t).pc = t := rfl
@[simp] theorem State.jump_mem (t : Word) : (s.jump t).mem = s.mem := rfl
@[simp] theorem State.jump_run (t : Word) : (s.jump t).run = s.run := rfl
@[simp] theorem State.jump_hostLog (t : Word) : (s.jump t).hostLog = s.hostLog := rfl
@[simp] theorem State.jump_hostDraws (t : Word) : (s.jump t).hostDraws = s.hostDraws := rfl
@[simp] theorem State.jump_params (t : Word) : (s.jump t).params = s.params := rfl

@[simp] theorem State.advance_x : (s.advance).x = s.x := rfl
@[simp] theorem State.advance_f : (s.advance).f = s.f := rfl
@[simp] theorem State.advance_pc : (s.advance).pc = s.pc + 4 := rfl
@[simp] theorem State.advance_mem : (s.advance).mem = s.mem := rfl
@[simp] theorem State.advance_run : (s.advance).run = s.run := rfl
@[simp] theorem State.advance_hostLog : (s.advance).hostLog = s.hostLog := rfl
@[simp] theorem State.advance_hostDraws : (s.advance).hostDraws = s.hostDraws := rfl
@[simp] theorem State.advance_params : (s.advance).params = s.params := rfl

@[simp] theorem State.halt_x (code : Word) : (s.halt code).x = s.x := rfl
@[simp] theorem State.halt_f (code : Word) : (s.halt code).f = s.f := rfl
@[simp] theorem State.halt_pc (code : Word) : (s.halt code).pc = s.pc := rfl
@[simp] theorem State.halt_mem (code : Word) : (s.halt code).mem = s.mem := rfl
@[simp] theorem State.halt_run (code : Word) : (s.halt code).run = .halted code := rfl
@[simp] theorem State.halt_hostLog (code : Word) : (s.halt code).hostLog = s.hostLog := rfl
@[simp] theorem State.halt_hostDraws (code : Word) : (s.halt code).hostDraws = s.hostDraws := rfl
@[simp] theorem State.halt_params (code : Word) : (s.halt code).params = s.params := rfl

@[simp] theorem State.raise_x (e : StopReason) (w : Option Word) : (s.raise e w).x = s.x := rfl
@[simp] theorem State.raise_f (e : StopReason) (w : Option Word) : (s.raise e w).f = s.f := rfl
@[simp] theorem State.raise_pc (e : StopReason) (w : Option Word) : (s.raise e w).pc = s.pc := rfl
@[simp] theorem State.raise_mem (e : StopReason) (w : Option Word) : (s.raise e w).mem = s.mem := rfl
@[simp] theorem State.raise_run (e : StopReason) (w : Option Word) : (s.raise e w).run = .faulted ⟨e, s.pc, w⟩ := rfl
@[simp] theorem State.raise_hostLog (e : StopReason) (w : Option Word) : (s.raise e w).hostLog = s.hostLog := rfl
@[simp] theorem State.raise_hostDraws (e : StopReason) (w : Option Word) : (s.raise e w).hostDraws = s.hostDraws := rfl
@[simp] theorem State.raise_params (e : StopReason) (w : Option Word) : (s.raise e w).params = s.params := rfl

/-! ## Register writes -/

@[simp] theorem State.writeX_x (r : RegIdx) (v : Word) : (s.writeX r v).x = if r = 0#5 then s.x else s.x.set r.toNat (.val v) := by
  unfold State.writeX; split <;> rfl
@[simp] theorem State.writeX_f (r : RegIdx) (v : Word) : (s.writeX r v).f = s.f := by
  unfold State.writeX; split <;> rfl
@[simp] theorem State.writeX_pc (r : RegIdx) (v : Word) : (s.writeX r v).pc = s.pc := by
  unfold State.writeX; split <;> rfl
@[simp] theorem State.writeX_mem (r : RegIdx) (v : Word) : (s.writeX r v).mem = s.mem := by
  unfold State.writeX; split <;> rfl
@[simp] theorem State.writeX_run (r : RegIdx) (v : Word) : (s.writeX r v).run = s.run := by
  unfold State.writeX; split <;> rfl
@[simp] theorem State.writeX_hostLog (r : RegIdx) (v : Word) : (s.writeX r v).hostLog = s.hostLog := by
  unfold State.writeX; split <;> rfl
@[simp] theorem State.writeX_hostDraws (r : RegIdx) (v : Word) : (s.writeX r v).hostDraws = s.hostDraws := by
  unfold State.writeX; split <;> rfl
@[simp] theorem State.writeX_params (r : RegIdx) (v : Word) : (s.writeX r v).params = s.params := by
  unfold State.writeX; split <;> rfl

@[simp] theorem State.writeF_x (r : RegIdx) (v : Word) : (s.writeF r v).x = s.x := rfl
@[simp] theorem State.writeF_f (r : RegIdx) (v : Word) : (s.writeF r v).f = s.f.set r.toNat (.val v) := rfl
@[simp] theorem State.writeF_pc (r : RegIdx) (v : Word) : (s.writeF r v).pc = s.pc := rfl
@[simp] theorem State.writeF_mem (r : RegIdx) (v : Word) : (s.writeF r v).mem = s.mem := rfl
@[simp] theorem State.writeF_run (r : RegIdx) (v : Word) : (s.writeF r v).run = s.run := rfl
@[simp] theorem State.writeF_hostLog (r : RegIdx) (v : Word) : (s.writeF r v).hostLog = s.hostLog := rfl
@[simp] theorem State.writeF_hostDraws (r : RegIdx) (v : Word) : (s.writeF r v).hostDraws = s.hostDraws := rfl
@[simp] theorem State.writeF_params (r : RegIdx) (v : Word) : (s.writeF r v).params = s.params := rfl

/-! ## What a register cell holds after an update -/

@[simp] theorem State.xCell_zero : s.xCell 0#5 = .val 0#32 := rfl

theorem State.xCell_congr {s t : State} (h : t.x = s.x) (r : RegIdx) : t.xCell r = s.xCell r := by
  simp [State.xCell, h]

theorem State.fCell_congr {s t : State} (h : t.f = s.f) (r : RegIdx) : t.fCell r = s.fCell r := by
  simp [State.fCell, h]

theorem State.readX_congr {s t : State} (h : t.x = s.x) (r : RegIdx) : t.readX r = s.readX r := by
  simp [State.readX, State.xCell_congr h]

theorem State.readF_congr {s t : State} (h : t.f = s.f) (r : RegIdx) : t.readF r = s.readF r := by
  simp [State.readF, State.fCell_congr h]

/-- R22: a write to x1 .. x31 is what that register then holds; every other cell, and x0, is as before. -/
@[simp] theorem State.xCell_writeX (r q : RegIdx) (v : Word) :
    (s.writeX r v).xCell q = if q = r ∧ r ≠ 0#5 then .val v else s.xCell q := by
  unfold State.xCell State.writeX
  by_cases hr : r = 0#5
  · simp [hr]
  · by_cases hq : q = r
    · subst hq; simp [hr]
    · have : r.toNat ≠ q.toNat := fun h => hq (BitVec.eq_of_toNat_eq h.symm)
      simp [hr, hq, Vector.getElem_set_ne, this]

/-- R24: a write is what the float register then holds; every other cell is as before. -/
@[simp] theorem State.fCell_writeF (r q : RegIdx) (v : Word) :
    (s.writeF r v).fCell q = if q = r then .val v else s.fCell q := by
  unfold State.fCell State.writeF
  by_cases hq : q = r
  · subst hq; simp
  · have : r.toNat ≠ q.toNat := fun h => hq (BitVec.eq_of_toNat_eq h.symm)
    simp [hq, Vector.getElem_set_ne, this]

@[simp] theorem State.xCell_jump (t : Word) (r : RegIdx) : (s.jump t).xCell r = s.xCell r := rfl
@[simp] theorem State.fCell_jump (t : Word) (r : RegIdx) : (s.jump t).fCell r = s.fCell r := rfl
@[simp] theorem State.xCell_advance (r : RegIdx) : s.advance.xCell r = s.xCell r := rfl
@[simp] theorem State.fCell_advance (r : RegIdx) : s.advance.fCell r = s.fCell r := rfl
@[simp] theorem State.xCell_raise (e : StopReason) (w : Option Word) (r : RegIdx) :
    (s.raise e w).xCell r = s.xCell r := rfl
@[simp] theorem State.fCell_raise (e : StopReason) (w : Option Word) (r : RegIdx) :
    (s.raise e w).fCell r = s.fCell r := rfl
@[simp] theorem State.fCell_writeX (r q : RegIdx) (v : Word) : (s.writeX r v).fCell q = s.fCell q :=
  State.fCell_congr (State.writeX_f s r v) q
@[simp] theorem State.xCell_writeF (r q : RegIdx) (v : Word) : (s.writeF r v).xCell q = s.xCell q := rfl

/-! ## Register reads -/

theorem State.readX_eq_ok {r : RegIdx} {v : Word} : s.readX r = .ok v ↔ s.xCell r = .val v := by
  unfold State.readX; cases s.xCell r <;> simp

theorem State.readX_eq_error {r : RegIdx} {e : StopReason} :
    s.readX r = .error e ↔ s.xCell r = .unwritten ∧ e = .unwrittenRegister .X r := by
  unfold State.readX; cases s.xCell r <;> simp [eq_comm]

theorem State.readF_eq_ok {r : RegIdx} {v : Word} : s.readF r = .ok v ↔ s.fCell r = .val v := by
  unfold State.readF; cases s.fCell r <;> simp

theorem State.readF_eq_error {r : RegIdx} {e : StopReason} :
    s.readF r = .error e ↔ s.fCell r = .unwritten ∧ e = .unwrittenRegister .F r := by
  unfold State.readF; cases s.fCell r <;> simp [eq_comm]

/-- R21: x0 reads 0, in every state. -/
@[simp] theorem State.readX_zero : s.readX 0#5 = .ok 0#32 := rfl

end Sys2Proof.Machine
end

