-- ==== Sys2Proof/Laws/Memory.lean ====
section
/-! SUPPORT. Memory: reads after writes, and the canonical form that every memory operation keeps. -/

namespace Sys2Proof.Machine

/-! ## Reads -/

@[simp] theorem Memory.read_nil (a : Nat) : Memory.read [] a = Memory.unlisted := rfl

theorem Memory.read_cons (b : Nat) (v : Byte) (m : Memory) (a : Nat) :
    Memory.read ((b, v) :: m) a = if a = b then v else Memory.read m a := rfl

/-- The first address of a canonical memory that is not `a`, and every one after it, lies above `a`. -/
def Memory.Above (a : Nat) : Memory → Prop
  | [] => True
  | (b, _) :: _ => a < b

theorem Memory.wf_cons {b : Nat} {v : Byte} {m : Memory} :
    Memory.wf ((b, v) :: m) = true ↔ v ≠ Memory.unlisted ∧ Memory.Above b m ∧ Memory.wf m = true := by
  cases m with
  | nil => simp [Memory.wf, Memory.Above]
  | cons c m => simp [Memory.wf, Memory.Above, and_assoc]

/-- Below the first listed address, every address reads as unlisted. -/
theorem Memory.read_of_above {m : Memory} : ∀ {a b : Nat}, Memory.wf m = true → Memory.Above b m → a ≤ b →
    m.read a = Memory.unlisted := by
  induction m with
  | nil => intros; rfl
  | cons c m ih =>
    intro a b hw hb hab
    obtain ⟨c, v⟩ := c
    have hbc : b < c := hb
    obtain ⟨_, h2, h3⟩ := Memory.wf_cons.mp hw
    rw [Memory.read_cons, if_neg (by omega)]
    exact ih h3 h2 (by omega)

theorem Memory.read_cons' (a : Nat) (v : Byte) (m : Memory) (c : Nat) (h : m.read a = Memory.unlisted) :
    (Memory.cons a v m).read c = if c = a then v else m.read c := by
  unfold Memory.cons
  split
  · rename_i hv
    split
    · rename_i hc; rw [hc, h, hv]
    · rfl
  · rfl

/-- A write is what the address then reads as, and leaves every other address alone. -/
theorem Memory.read_write {m : Memory} (hw : Memory.wf m = true) (a : Nat) (v : Byte) (c : Nat) :
    (m.write a v).read c = if c = a then v else m.read c := by
  induction m with
  | nil => exact Memory.read_cons' a v [] c rfl
  | cons b m ih =>
    obtain ⟨b, w⟩ := b
    obtain ⟨_, hb, hm⟩ := Memory.wf_cons.mp hw
    unfold Memory.write
    split
    · rename_i hab
      exact Memory.read_cons' a v _ c (Memory.read_of_above hw (b := a) hab (Nat.le_refl _))
    · split
      · rename_i _ hab
        subst hab
        rw [Memory.read_cons' a v m c (Memory.read_of_above hm hb (Nat.le_refl _)), Memory.read_cons]
        split <;> rfl
      · rename_i h1 h2
        rw [Memory.read_cons, Memory.read_cons, ih hm]
        by_cases hcb : c = b
        · rw [if_pos hcb, if_pos hcb, if_neg (by omega)]
        · rw [if_neg hcb, if_neg hcb]

/-! ## The canonical form -/

theorem Memory.wf_consCell {a : Nat} {v : Byte} {m : Memory} (hm : Memory.wf m = true) (ha : Memory.Above a m) :
    Memory.wf (Memory.cons a v m) = true := by
  unfold Memory.cons
  split
  · exact hm
  · rename_i hv; exact Memory.wf_cons.mpr ⟨hv, ha, hm⟩

theorem Memory.above_write {m : Memory} {b a : Nat} {v : Byte} (hb : Memory.Above b m) (hab : b < a)
    (hw : Memory.wf m = true) : Memory.Above b (m.write a v) := by
  cases m with
  | nil => unfold Memory.write Memory.cons; split <;> trivial
  | cons c m =>
    obtain ⟨c, w⟩ := c
    have hbc : b < c := hb
    obtain ⟨_, hcm, _⟩ := Memory.wf_cons.mp hw
    unfold Memory.write
    split
    · unfold Memory.cons; split <;> first | exact hbc | exact hab
    · split
      · unfold Memory.cons
        split
        · cases m with
          | nil => trivial
          | cons d m => exact Nat.lt_trans hbc hcm
        · exact hab
      · exact hbc

/-- A write keeps the canonical form. -/
theorem Memory.wf_write {m : Memory} (hw : Memory.wf m = true) (a : Nat) (v : Byte) :
    Memory.wf (m.write a v) = true := by
  induction m with
  | nil => exact Memory.wf_consCell rfl trivial
  | cons b m ih =>
    obtain ⟨b, w⟩ := b
    obtain ⟨hne, hb, hm⟩ := Memory.wf_cons.mp hw
    unfold Memory.write
    split
    · rename_i hab; exact Memory.wf_consCell hw hab
    · split
      · rename_i _ hab; subst hab; exact Memory.wf_consCell hm hb
      · rename_i h1 h2
        exact Memory.wf_cons.mpr ⟨hne, Memory.above_write hb (by omega) hm, ih hm⟩

theorem Memory.wf_writeBytes {m : Memory} (hw : Memory.wf m = true) (a : Nat) (l : List Byte) :
    Memory.wf (m.writeBytes a l) = true := by
  induction l generalizing m a with
  | nil => exact hw
  | cons v l ih => exact ih (Memory.wf_write hw a v) (a + 1)

/-- Bytes written are what their addresses then read as, and every other address is left alone. -/
theorem Memory.read_writeBytes {m : Memory} (hw : Memory.wf m = true) (a : Nat) (l : List Byte) (c : Nat) :
    (m.writeBytes a l).read c = if h : a ≤ c ∧ c - a < l.length then l[c - a]'h.2 else m.read c := by
  induction l generalizing m a with
  | nil => simp [Memory.writeBytes]
  | cons v l ih =>
    rw [Memory.writeBytes, ih (Memory.wf_write hw a v), Memory.read_write hw]
    rcases Nat.lt_trichotomy c a with h | h | h
    · rw [dif_neg (by omega), dif_neg (by omega), if_neg (by omega)]
    · subst h
      simp
    · by_cases h2 : c - a < (v :: l).length
      · have h3 : c - (a + 1) < l.length := by simp at h2; omega
        rw [dif_pos ⟨by omega, h3⟩, dif_pos ⟨by omega, h2⟩]
        have : c - a = (c - (a + 1)) + 1 := by omega
        simp [this]
      · have h3 : ¬ (c - (a + 1) < l.length) := by simp at h2; omega
        rw [dif_neg (by omega), dif_neg (by omega), if_neg (by omega)]

/-- Outside the written span nothing changes. -/
theorem Memory.read_writeBytes_outside {m : Memory} (hw : Memory.wf m = true) {a c : Nat} {l : List Byte}
    (h : c < a ∨ a + l.length ≤ c) : (m.writeBytes a l).read c = m.read c := by
  rw [Memory.read_writeBytes hw, dif_neg (by omega)]

@[simp] theorem bytesOf_length (v : Word) (n : Nat) : (bytesOf v n).length = n := by simp [bytesOf]

@[simp] theorem Memory.readBytes_length (m : Memory) (a n : Nat) : (m.readBytes a n).length = n := by
  induction n generalizing a with
  | zero => rfl
  | succ n ih => simp [Memory.readBytes, ih]

/-- Two canonical memories that read alike everywhere are equal. -/
theorem Memory.ext_of_wf {m n : Memory} (hm : Memory.wf m = true) (hn : Memory.wf n = true)
    (h : ∀ a, m.read a = n.read a) : m = n := by
  induction m generalizing n with
  | nil =>
    cases n with
    | nil => rfl
    | cons c n =>
      obtain ⟨c, w⟩ := c
      exact absurd (by simpa [Memory.read_cons] using (h c).symm) (Memory.wf_cons.mp hn).1
  | cons b m ih =>
    obtain ⟨b, v⟩ := b
    obtain ⟨hv, hb, hm'⟩ := Memory.wf_cons.mp hm
    cases n with
    | nil => exact absurd (by simpa [Memory.read_cons] using h b) hv
    | cons c n =>
      obtain ⟨c, w⟩ := c
      obtain ⟨hw, hc, hn'⟩ := Memory.wf_cons.mp hn
      have hbc : b = c := by
        rcases Nat.lt_trichotomy b c with hlt | heq | hgt
        · have := h b
          rw [Memory.read_cons, if_pos rfl,
            Memory.read_of_above (b := b) hn hlt (Nat.le_refl _)] at this
          exact absurd this hv
        · exact heq
        · have := h c
          rw [Memory.read_of_above (b := c) hm hgt (Nat.le_refl _), Memory.read_cons, if_pos rfl] at this
          exact absurd this.symm hw
      subst hbc
      have hvw : v = w := by simpa [Memory.read_cons] using h b
      subst hvw
      refine congrArg _ (ih hm' hn' fun a => ?_)
      by_cases ha : a = b
      · subst ha
        rw [Memory.read_of_above hm' hb (Nat.le_refl _), Memory.read_of_above hn' hc (Nat.le_refl _)]
      · simpa [Memory.read_cons, ha] using h a

/-- Memory after reset is in canonical form. -/
theorem State.reset_mem_wf : Memory.wf State.reset.mem = true := rfl

/-- Placing a word keeps the canonical form. -/
theorem State.placeWord_mem_wf {s : State} (h : Memory.wf s.mem = true) (w : Word) : Memory.wf (s.placeWord w).mem = true :=
  Memory.wf_writeBytes h _ _

end Sys2Proof.Machine
end

