-- ==== Sys2Proof/Laws/Exec.lean ====
section
/-! SUPPORT. What every shared operation answers, and, once for all instructions, everything an instruction can do:
`exec_effect`. Frames and invariants follow from it by one case split on nine effects. -/

namespace Sys2Proof.Machine

/-! ## Actions -/

@[simp] theorem ok_bind {α β : Type} (v : α) (k : α → Except StopReason β) :
    ((Except.ok v : Except StopReason α) >>= k) = k v := rfl

@[simp] theorem error_bind {α β : Type} (e : StopReason) (k : α → Except StopReason β) :
    ((Except.error e : Except StopReason α) >>= k) = .error e := rfl

theorem bind_eq_ok {α β : Type} {a : Except StopReason α} {k : α → Except StopReason β} {t : β} :
    (a >>= k) = .ok t ↔ ∃ v, a = .ok v ∧ k v = .ok t := by
  cases a <;> simp

/-- The end of a step: the action's state, or its stop outcome taken from the state before. -/
theorem complete_eq_next {i : Instr} {s t : State} {a : Act} :
    complete i s a = .next t ↔ a = .ok t ∨ ∃ e, a = .error e ∧ t = s.raise e (some (encode i)) := by
  cases a <;> simp [complete, eq_comm]

@[simp] theorem complete_ok (i : Instr) (s t : State) : complete i s (.ok t) = .next t := rfl

@[simp] theorem complete_error (i : Instr) (s : State) (e : StopReason) :
    complete i s (.error e) = .next (s.raise e (some (encode i))) := rfl

theorem State.checkAccess_eq_ok {s : State} {addr : Word} {n : Nat} {e1 e2 : StopReason} {u : Unit} :
    s.checkAccess addr n e1 e2 = .ok u ↔
      ¬ (s.params.misalignedDataPolicy = .fault ∧ addr.toNat % n ≠ 0) ∧ s.InRange addr n := by
  unfold State.checkAccess
  split
  · simp_all
  · split <;> simp_all

theorem State.checkBuffer_eq_ok {s : State} {buf len : Word} {u : Unit} :
    s.checkBuffer buf len = .ok u ↔ (0 < len.toNat → s.InRange buf len.toNat) := by
  unfold State.checkBuffer
  split
  · rename_i h; simp only [reduceCtorEq, false_iff]; exact fun h' => h.2 (h' h.1)
  · rename_i h; simp only [true_iff]; exact fun h1 => by_contra fun h2 => h ⟨h1, h2⟩

/-! ## The nine effects -/

/-- Everything an instruction that answers a next state can do to the state. -/
inductive Effect (i : Instr) (s : State) : State → Prop where
  /-- It takes a stop outcome. -/
  | stop (e : StopReason) : Effect i s (s.raise e (some (encode i)))
  /-- It writes its integer destination and goes on. -/
  | writeX (rd : RegIdx) (v : Word) (hd : i.destX = some rd) : Effect i s (s.writeX rd v).advance
  /-- It links and jumps. -/
  | link (rd : RegIdx) (target : Word) (hd : i.destX = some rd) (hc : i.isControlTransfer = true) :
      Effect i s ((s.writeX rd (s.pc + 4)).jump target)
  /-- It branches. -/
  | branch (target : Word) (hc : i.isControlTransfer = true) : Effect i s (s.jump target)
  /-- It only advances the pc. -/
  | advance : Effect i s s.advance
  /-- It writes its float destination and goes on. -/
  | writeF (rd : RegIdx) (v : Word) (hd : i.destF = some rd) : Effect i s (s.writeF rd v).advance
  /-- It stores `n` bytes at x[rs1] + imm. -/
  | store (rs1 : RegIdx) (imm : Word) (n : Nat) (base data : Word) (hs : i.storeForm = some (rs1, imm, n))
      (hb : s.readX rs1 = .ok base) (hr : s.InRange (base + imm) n) :
      Effect i s ({ s with mem := s.mem.writeBytes (base + imm).toNat (bytesOf data n) } : State).advance
  /-- It is the exit call. -/
  | exit (code : Word) (hi : i.isEcall = true) (h7 : s.readX regA7 = .ok 93#32) (h0 : s.readX regA0 = .ok code) :
      Effect i s (s.halt code)
  /-- It is the write call. -/
  | hostWrite (buf len : Word) (hi : i.isEcall = true) (h7 : s.readX regA7 = .ok 64#32)
      (h0 : s.readX regA0 = .ok 1#32) (h1 : s.readX regA1 = .ok buf) (h2 : s.readX regA2 = .ok len)
      (hr : 0 < len.toNat → s.InRange buf len.toNat) :
      Effect i s (s.hostWrite (s.mem.readBytes buf.toNat len.toNat))
  /-- It is the read call. -/
  | hostRead (buf len : Word) (hi : i.isEcall = true) (h7 : s.readX regA7 = .ok 63#32)
      (h0 : s.readX regA0 = .ok 0#32) (h1 : s.readX regA1 = .ok buf) (h2 : s.readX regA2 = .ok len)
      (hr : 0 < len.toNat → s.InRange buf len.toNat) :
      Effect i s (s.hostRead buf len.toNat)

variable {i : Instr} {s t : State}

theorem effect_of_act {a : Act} (h : complete i s a = .next t) (ha : ∀ t, a = .ok t → Effect i s t) :
    Effect i s t := by
  rcases complete_eq_next.mp h with h | ⟨e, _, rfl⟩
  · exact ha t h
  · exact .stop e

theorem effect_setX {rd : RegIdx} {v : Word} (hd : i.destX = some rd)
    (h : complete i s (s.setX rd v) = .next t) : Effect i s t :=
  effect_of_act h fun t ht => by cases ht; exact .writeX rd v hd

theorem effect_opX {rd rs1 : RegIdx} {g : Word → Word} (hd : i.destX = some rd)
    (h : complete i s (s.opX rd rs1 g) = .next t) : Effect i s t :=
  effect_of_act h fun t ht => by
    obtain ⟨a, _, ht⟩ := bind_eq_ok.mp ht
    cases ht; exact .writeX rd _ hd

theorem effect_opXX {rd rs1 rs2 : RegIdx} {g : Word → Word → Word} (hd : i.destX = some rd)
    (h : complete i s (s.opXX rd rs1 rs2 g) = .next t) : Effect i s t :=
  effect_of_act h fun t ht => by
    obtain ⟨a, _, ht⟩ := bind_eq_ok.mp ht
    obtain ⟨b, _, ht⟩ := bind_eq_ok.mp ht
    cases ht; exact .writeX rd _ hd

theorem effect_branch {rs1 rs2 : RegIdx} {imm : Word} {c : Word → Word → Bool} (hc : i.isControlTransfer = true)
    (h : complete i s (s.branch rs1 rs2 imm c) = .next t) : Effect i s t :=
  effect_of_act h fun t ht => by
    obtain ⟨a, _, ht⟩ := bind_eq_ok.mp ht
    obtain ⟨b, _, ht⟩ := bind_eq_ok.mp ht
    cases ht
    split
    · exact .branch _ hc
    · exact .advance

theorem effect_load {rd rs1 : RegIdx} {imm : Word} {n : Nat} {g : Memory → Nat → Word} (hd : i.destX = some rd)
    (h : complete i s (s.load rd rs1 imm n g) = .next t) : Effect i s t :=
  effect_of_act h fun t ht => by
    obtain ⟨a, _, ht⟩ := bind_eq_ok.mp ht
    obtain ⟨_, _, ht⟩ := bind_eq_ok.mp ht
    cases ht; exact .writeX rd _ hd

theorem effect_store {rs1 rs2 : RegIdx} {imm : Word} {n : Nat} (hs : i.storeForm = some (rs1, imm, n))
    (h : complete i s (s.store rs1 rs2 imm n) = .next t) : Effect i s t :=
  effect_of_act h fun t ht => by
    obtain ⟨base, hb, ht⟩ := bind_eq_ok.mp ht
    obtain ⟨data, _, ht⟩ := bind_eq_ok.mp ht
    obtain ⟨_, hr, ht⟩ := bind_eq_ok.mp ht
    cases ht
    exact .store rs1 imm n base data hs hb (State.checkAccess_eq_ok.mp hr).2

theorem effect_opFF {rd rs1 rs2 : RegIdx} {g : Word → Word → Word} (hd : i.destF = some rd)
    (h : complete i s (s.opFF rd rs1 rs2 g) = .next t) : Effect i s t :=
  effect_of_act h fun t ht => by
    obtain ⟨a, _, ht⟩ := bind_eq_ok.mp ht
    obtain ⟨b, _, ht⟩ := bind_eq_ok.mp ht
    cases ht; exact .writeF rd _ hd

theorem effect_opFFrm {rd rs1 rs2 : RegIdx} {rm : BitVec 3} {g : RoundMode → Word → Word → Word}
    (hd : i.destF = some rd) (h : complete i s (s.opFFrm rd rs1 rs2 rm g) = .next t) : Effect i s t :=
  effect_of_act h fun t ht => by
    obtain ⟨m, _, ht⟩ := bind_eq_ok.mp ht
    exact effect_opFF (g := g m) hd (by rw [ht]; rfl)

theorem effect_opFrm {rd rs1 : RegIdx} {rm : BitVec 3} {g : RoundMode → Word → Word}
    (hd : i.destF = some rd) (h : complete i s (s.opFrm rd rs1 rm g) = .next t) : Effect i s t :=
  effect_of_act h fun t ht => by
    obtain ⟨m, _, ht⟩ := bind_eq_ok.mp ht
    obtain ⟨a, _, ht⟩ := bind_eq_ok.mp ht
    cases ht; exact .writeF rd _ hd

theorem effect_opFFFrm {rd rs1 rs2 rs3 : RegIdx} {rm : BitVec 3} {g : RoundMode → Word → Word → Word → Word}
    (hd : i.destF = some rd) (h : complete i s (s.opFFFrm rd rs1 rs2 rs3 rm g) = .next t) : Effect i s t :=
  effect_of_act h fun t ht => by
    obtain ⟨m, _, ht⟩ := bind_eq_ok.mp ht
    obtain ⟨a, _, ht⟩ := bind_eq_ok.mp ht
    obtain ⟨b, _, ht⟩ := bind_eq_ok.mp ht
    obtain ⟨c, _, ht⟩ := bind_eq_ok.mp ht
    cases ht; exact .writeF rd _ hd

theorem effect_opXFF {rd rs1 rs2 : RegIdx} {g : Word → Word → Word} (hd : i.destX = some rd)
    (h : complete i s (s.opXFF rd rs1 rs2 g) = .next t) : Effect i s t :=
  effect_of_act h fun t ht => by
    obtain ⟨a, _, ht⟩ := bind_eq_ok.mp ht
    obtain ⟨b, _, ht⟩ := bind_eq_ok.mp ht
    cases ht; exact .writeX rd _ hd

theorem effect_opXF {rd rs1 : RegIdx} {g : Word → Word} (hd : i.destX = some rd)
    (h : complete i s (s.opXF rd rs1 g) = .next t) : Effect i s t :=
  effect_of_act h fun t ht => by
    obtain ⟨a, _, ht⟩ := bind_eq_ok.mp ht
    cases ht; exact .writeX rd _ hd

theorem effect_opFX {rd rs1 : RegIdx} {g : Word → Word} (hd : i.destF = some rd)
    (h : complete i s (s.opFX rd rs1 g) = .next t) : Effect i s t :=
  effect_of_act h fun t ht => by
    obtain ⟨a, _, ht⟩ := bind_eq_ok.mp ht
    cases ht; exact .writeF rd _ hd

theorem effect_jal {rd : RegIdx} {imm : Word} (h : execJal rd imm s = .next t) : Effect (.jal rd imm) s t :=
  effect_of_act h fun t ht => by cases ht; exact .link rd _ rfl rfl

theorem effect_jalr {rd rs1 : RegIdx} {funct3 : BitVec 3} {imm : Word}
    (h : execJalr rd funct3 rs1 imm s = .next t) : Effect (.jalr rd funct3 rs1 imm) s t :=
  effect_of_act h fun t ht => by
    obtain ⟨a, _, ht⟩ := bind_eq_ok.mp ht
    cases ht; exact .link rd _ rfl rfl

theorem effect_fence {rd rs1 : RegIdx} {funct3 : BitVec 3} {imm : Word}
    (h : execFence rd funct3 rs1 imm s = .next t) : Effect (.fence rd funct3 rs1 imm) s t :=
  effect_of_act h fun t ht => by cases ht; exact .advance

theorem effect_ebreak {rd rs1 : RegIdx} {funct3 : BitVec 3}
    (h : execEbreak rd funct3 rs1 s = .next t) : Effect (.ebreak rd funct3 rs1) s t :=
  effect_of_act h fun t ht => by cases ht

theorem effect_ecall {rd rs1 : RegIdx} {funct3 : BitVec 3}
    (h : execEcall rd funct3 rs1 s = .next t) : Effect (.ecall rd funct3 rs1) s t :=
  effect_of_act h fun t ht => by
    obtain ⟨n, h7, ht⟩ := bind_eq_ok.mp ht
    split at ht
    · rename_i hn; subst hn
      obtain ⟨code, h0, ht⟩ := bind_eq_ok.mp ht
      cases ht; exact .exit code rfl h7 h0
    split at ht
    · rename_i hn; subst hn
      obtain ⟨fd, h0, ht⟩ := bind_eq_ok.mp ht
      obtain ⟨buf, h1, ht⟩ := bind_eq_ok.mp ht
      obtain ⟨len, h2, ht⟩ := bind_eq_ok.mp ht
      split at ht
      · cases ht
      · rename_i hfd
        obtain ⟨_, hr, ht⟩ := bind_eq_ok.mp ht
        cases ht
        exact .hostWrite buf len rfl h7 (by rw [h0, not_not.mp hfd]) h1 h2 (State.checkBuffer_eq_ok.mp hr)
    split at ht
    · rename_i hn; subst hn
      obtain ⟨fd, h0, ht⟩ := bind_eq_ok.mp ht
      obtain ⟨buf, h1, ht⟩ := bind_eq_ok.mp ht
      obtain ⟨len, h2, ht⟩ := bind_eq_ok.mp ht
      split at ht
      · cases ht
      · rename_i hfd
        obtain ⟨_, hr, ht⟩ := bind_eq_ok.mp ht
        cases ht
        exact .hostRead buf len rfl h7 (by rw [h0, not_not.mp hfd]) h1 h2 (State.checkBuffer_eq_ok.mp hr)
    · cases ht

/-! ## All instructions -/

/-- An instruction that answers a next state does one of the nine effects. -/
theorem exec_effect (h : exec i s = .next t) : Effect i s t := by
  cases i with
  | lui => exact effect_setX rfl h
  | auipc => exact effect_setX rfl h
  | jal => exact effect_jal h
  | jalr => exact effect_jalr h
  | beq => exact effect_branch rfl h
  | bne => exact effect_branch rfl h
  | blt => exact effect_branch rfl h
  | bge => exact effect_branch rfl h
  | bltu => exact effect_branch rfl h
  | bgeu => exact effect_branch rfl h
  | lb => exact effect_load rfl h
  | lh => exact effect_load rfl h
  | lw => exact effect_load rfl h
  | lbu => exact effect_load rfl h
  | lhu => exact effect_load rfl h
  | sb => exact effect_store rfl h
  | sh => exact effect_store rfl h
  | sw => exact effect_store rfl h
  | addi => exact effect_opX rfl h
  | slti => exact effect_opX rfl h
  | sltiu => exact effect_opX rfl h
  | xori => exact effect_opX rfl h
  | ori => exact effect_opX rfl h
  | andi => exact effect_opX rfl h
  | slli => exact effect_opX rfl h
  | srli => exact effect_opX rfl h
  | srai => exact effect_opX rfl h
  | add => exact effect_opXX rfl h
  | sub => exact effect_opXX rfl h
  | sll => exact effect_opXX rfl h
  | slt => exact effect_opXX rfl h
  | sltu => exact effect_opXX rfl h
  | xor => exact effect_opXX rfl h
  | srl => exact effect_opXX rfl h
  | sra => exact effect_opXX rfl h
  | or => exact effect_opXX rfl h
  | and => exact effect_opXX rfl h
  | fence => exact effect_fence h
  | ecall => exact effect_ecall h
  | ebreak => exact effect_ebreak h
  | mul => exact effect_opXX rfl h
  | mulh => exact effect_opXX rfl h
  | mulhsu => exact effect_opXX rfl h
  | mulhu => exact effect_opXX rfl h
  | div => exact effect_opXX rfl h
  | divu => exact effect_opXX rfl h
  | rem => exact effect_opXX rfl h
  | remu => exact effect_opXX rfl h
  | faddS => exact effect_opFFrm rfl h
  | fsubS => exact effect_opFFrm rfl h
  | fmulS => exact effect_opFFrm rfl h
  | fdivS => exact effect_opFFrm rfl h
  | fsqrtS => exact effect_opFrm rfl h
  | fmaddS => exact effect_opFFFrm rfl h
  | fmsubS => exact effect_opFFFrm rfl h
  | fnmsubS => exact effect_opFFFrm rfl h
  | fnmaddS => exact effect_opFFFrm rfl h
  | fsgnjS => exact effect_opFF rfl h
  | fsgnjnS => exact effect_opFF rfl h
  | fsgnjxS => exact effect_opFF rfl h
  | fminS => exact effect_opFF rfl h
  | fmaxS => exact effect_opFF rfl h
  | fcvtWS => exact effect_opXF rfl h
  | fcvtWUS => exact effect_opXF rfl h
  | fcvtSW => exact effect_opFX rfl h
  | fcvtSWU => exact effect_opFX rfl h
  | fmvXW => exact effect_opXF rfl h
  | fmvWX => exact effect_opFX rfl h
  | feqS => exact effect_opXFF rfl h
  | fltS => exact effect_opXFF rfl h
  | fleS => exact effect_opXFF rfl h
  | fclassS => exact effect_opXF rfl h
  | andn => exact effect_opXX rfl h
  | orn => exact effect_opXX rfl h
  | xnor => exact effect_opXX rfl h
  | clz => exact effect_opX rfl h
  | ctz => exact effect_opX rfl h
  | cpop => exact effect_opX rfl h
  | min => exact effect_opXX rfl h
  | max => exact effect_opXX rfl h
  | minu => exact effect_opXX rfl h
  | maxu => exact effect_opXX rfl h
  | sextB => exact effect_opX rfl h
  | sextH => exact effect_opX rfl h
  | zextH => exact effect_opX rfl h
  | rol => exact effect_opXX rfl h
  | ror => exact effect_opXX rfl h
  | rori => exact effect_opX rfl h
  | orcB => exact effect_opX rfl h
  | rev8 => exact effect_opX rfl h

theorem complete_answers (i : Instr) (s : State) (a : Act) : ∃ t, complete i s a = .next t := by
  cases a <;> simp [complete]

/-- Every instruction answers a next state: a stop outcome of the spec is one. -/
theorem exec_answers (i : Instr) (s : State) : ∃ t, exec i s = .next t := by
  cases i with
  | lui => unfold exec execLui; exact complete_answers _ _ _
  | auipc => unfold exec execAuipc; exact complete_answers _ _ _
  | jal => unfold exec execJal; exact complete_answers _ _ _
  | jalr => unfold exec execJalr; exact complete_answers _ _ _
  | beq => unfold exec execBeq; exact complete_answers _ _ _
  | bne => unfold exec execBne; exact complete_answers _ _ _
  | blt => unfold exec execBlt; exact complete_answers _ _ _
  | bge => unfold exec execBge; exact complete_answers _ _ _
  | bltu => unfold exec execBltu; exact complete_answers _ _ _
  | bgeu => unfold exec execBgeu; exact complete_answers _ _ _
  | lb => unfold exec execLb; exact complete_answers _ _ _
  | lh => unfold exec execLh; exact complete_answers _ _ _
  | lw => unfold exec execLw; exact complete_answers _ _ _
  | lbu => unfold exec execLbu; exact complete_answers _ _ _
  | lhu => unfold exec execLhu; exact complete_answers _ _ _
  | sb => unfold exec execSb; exact complete_answers _ _ _
  | sh => unfold exec execSh; exact complete_answers _ _ _
  | sw => unfold exec execSw; exact complete_answers _ _ _
  | addi => unfold exec execAddi; exact complete_answers _ _ _
  | slti => unfold exec execSlti; exact complete_answers _ _ _
  | sltiu => unfold exec execSltiu; exact complete_answers _ _ _
  | xori => unfold exec execXori; exact complete_answers _ _ _
  | ori => unfold exec execOri; exact complete_answers _ _ _
  | andi => unfold exec execAndi; exact complete_answers _ _ _
  | slli => unfold exec execSlli; exact complete_answers _ _ _
  | srli => unfold exec execSrli; exact complete_answers _ _ _
  | srai => unfold exec execSrai; exact complete_answers _ _ _
  | add => unfold exec execAdd; exact complete_answers _ _ _
  | sub => unfold exec execSub; exact complete_answers _ _ _
  | sll => unfold exec execSll; exact complete_answers _ _ _
  | slt => unfold exec execSlt; exact complete_answers _ _ _
  | sltu => unfold exec execSltu; exact complete_answers _ _ _
  | xor => unfold exec execXor; exact complete_answers _ _ _
  | srl => unfold exec execSrl; exact complete_answers _ _ _
  | sra => unfold exec execSra; exact complete_answers _ _ _
  | or => unfold exec execOr; exact complete_answers _ _ _
  | and => unfold exec execAnd; exact complete_answers _ _ _
  | fence => unfold exec execFence; exact complete_answers _ _ _
  | ecall => unfold exec execEcall; exact complete_answers _ _ _
  | ebreak => unfold exec execEbreak; exact complete_answers _ _ _
  | mul => unfold exec execMul; exact complete_answers _ _ _
  | mulh => unfold exec execMulh; exact complete_answers _ _ _
  | mulhsu => unfold exec execMulhsu; exact complete_answers _ _ _
  | mulhu => unfold exec execMulhu; exact complete_answers _ _ _
  | div => unfold exec execDiv; exact complete_answers _ _ _
  | divu => unfold exec execDivu; exact complete_answers _ _ _
  | rem => unfold exec execRem; exact complete_answers _ _ _
  | remu => unfold exec execRemu; exact complete_answers _ _ _
  | faddS => unfold exec execFaddS; exact complete_answers _ _ _
  | fsubS => unfold exec execFsubS; exact complete_answers _ _ _
  | fmulS => unfold exec execFmulS; exact complete_answers _ _ _
  | fdivS => unfold exec execFdivS; exact complete_answers _ _ _
  | fsqrtS => unfold exec execFsqrtS; exact complete_answers _ _ _
  | fmaddS => unfold exec execFmaddS; exact complete_answers _ _ _
  | fmsubS => unfold exec execFmsubS; exact complete_answers _ _ _
  | fnmsubS => unfold exec execFnmsubS; exact complete_answers _ _ _
  | fnmaddS => unfold exec execFnmaddS; exact complete_answers _ _ _
  | fsgnjS => unfold exec execFsgnjS; exact complete_answers _ _ _
  | fsgnjnS => unfold exec execFsgnjnS; exact complete_answers _ _ _
  | fsgnjxS => unfold exec execFsgnjxS; exact complete_answers _ _ _
  | fminS => unfold exec execFminS; exact complete_answers _ _ _
  | fmaxS => unfold exec execFmaxS; exact complete_answers _ _ _
  | fcvtWS => unfold exec execFcvtWS; exact complete_answers _ _ _
  | fcvtWUS => unfold exec execFcvtWUS; exact complete_answers _ _ _
  | fcvtSW => unfold exec execFcvtSW; exact complete_answers _ _ _
  | fcvtSWU => unfold exec execFcvtSWU; exact complete_answers _ _ _
  | fmvXW => unfold exec execFmvXW; exact complete_answers _ _ _
  | fmvWX => unfold exec execFmvWX; exact complete_answers _ _ _
  | feqS => unfold exec execFeqS; exact complete_answers _ _ _
  | fltS => unfold exec execFltS; exact complete_answers _ _ _
  | fleS => unfold exec execFleS; exact complete_answers _ _ _
  | fclassS => unfold exec execFclassS; exact complete_answers _ _ _
  | andn => unfold exec execAndn; exact complete_answers _ _ _
  | orn => unfold exec execOrn; exact complete_answers _ _ _
  | xnor => unfold exec execXnor; exact complete_answers _ _ _
  | clz => unfold exec execClz; exact complete_answers _ _ _
  | ctz => unfold exec execCtz; exact complete_answers _ _ _
  | cpop => unfold exec execCpop; exact complete_answers _ _ _
  | min => unfold exec execMin; exact complete_answers _ _ _
  | max => unfold exec execMax; exact complete_answers _ _ _
  | minu => unfold exec execMinu; exact complete_answers _ _ _
  | maxu => unfold exec execMaxu; exact complete_answers _ _ _
  | sextB => unfold exec execSextB; exact complete_answers _ _ _
  | sextH => unfold exec execSextH; exact complete_answers _ _ _
  | zextH => unfold exec execZextH; exact complete_answers _ _ _
  | rol => unfold exec execRol; exact complete_answers _ _ _
  | ror => unfold exec execRor; exact complete_answers _ _ _
  | rori => unfold exec execRori; exact complete_answers _ _ _
  | orcB => unfold exec execOrcB; exact complete_answers _ _ _
  | rev8 => unfold exec execRev8; exact complete_answers _ _ _

/-! ## Steps -/

/-- Everything a step can do: it stops at fetch or lookup, or runs the instruction at the pc. -/
theorem step_cases (h : step s = .next t) :
    s.run = .running ∧
      ((∃ e, s.fetch = .error e ∧ t = s.raise e none) ∨
        ∃ w, s.fetch = .ok w ∧
          ((∃ e, decode w = .error e ∧ t = s.raise (lookupReason e) (some w)) ∨
            ∃ i, decode w = .ok i ∧ exec i s = .next t)) := by
  unfold step at h
  split at h
  · cases h
  · cases h
  · rename_i hr
    refine ⟨hr, ?_⟩
    split at h
    · rename_i e he; cases h; exact .inl ⟨e, he, rfl⟩
    · rename_i w hw
      split at h
      · rename_i e he; cases h; exact .inr ⟨w, hw, .inl ⟨e, he, rfl⟩⟩
      · rename_i i hi; exact .inr ⟨w, hw, .inr ⟨i, hi, h⟩⟩

/-- A step from a running state takes a stop outcome or does an instruction's effect. -/
theorem step_effect (h : step s = .next t) :
    (∃ e w, t = s.raise e w) ∨ ∃ w i, s.fetch = .ok w ∧ decode w = .ok i ∧ Effect i s t := by
  obtain ⟨_, ⟨e, _, rfl⟩ | ⟨w, hw, ⟨e, _, rfl⟩ | ⟨i, hi, hx⟩⟩⟩ := step_cases h
  · exact .inl ⟨e, none, rfl⟩
  · exact .inl ⟨_, some w, rfl⟩
  · exact .inr ⟨w, i, hw, hi, exec_effect hx⟩

end Sys2Proof.Machine
end

