-- ==== Sys2Proof/Laws/PerInstr.lean ====
section
/-! SUPPORT. The family MatchesRow: every instruction's word lies in its row of the opcode map (30_encoding.md R135). -/

namespace Sys2Proof.Laws.MatchesRow

set_option Elab.async false

/-- The word of an instruction, under its row's mask, is its row's match (R135). -/
def Statement (i : Instr) : Prop := encode i &&& i.row.2 = i.row.1

theorem lui (rd : RegIdx) (imm : Word) : Statement (.lui rd imm) := by
  simp [Statement, encode, Instr.fields, DecodedFields.encode, Instr.row, encU, BitVec.and_or_distrib_right, place_and]
  decide

theorem auipc (rd : RegIdx) (imm : Word) : Statement (.auipc rd imm) := by
  simp [Statement, encode, Instr.fields, DecodedFields.encode, Instr.row, encU, BitVec.and_or_distrib_right, place_and]
  decide

theorem jal (rd : RegIdx) (imm : Word) : Statement (.jal rd imm) := by
  simp [Statement, encode, Instr.fields, DecodedFields.encode, Instr.row, encJ, BitVec.and_or_distrib_right, place_and]
  decide

theorem jalr (rd : RegIdx) (funct3 : BitVec 3) (rs1 : RegIdx) (imm : Word) : Statement (.jalr rd funct3 rs1 imm) := by
  simp [Statement, encode, Instr.fields, DecodedFields.encode, Instr.row, encI, BitVec.and_or_distrib_right, place_and]
  decide

theorem beq (rs1 : RegIdx) (rs2 : RegIdx) (imm : Word) : Statement (.beq rs1 rs2 imm) := by
  simp [Statement, encode, Instr.fields, DecodedFields.encode, Instr.row, encB, BitVec.and_or_distrib_right, place_and]
  decide

theorem bne (rs1 : RegIdx) (rs2 : RegIdx) (imm : Word) : Statement (.bne rs1 rs2 imm) := by
  simp [Statement, encode, Instr.fields, DecodedFields.encode, Instr.row, encB, BitVec.and_or_distrib_right, place_and]
  decide

theorem blt (rs1 : RegIdx) (rs2 : RegIdx) (imm : Word) : Statement (.blt rs1 rs2 imm) := by
  simp [Statement, encode, Instr.fields, DecodedFields.encode, Instr.row, encB, BitVec.and_or_distrib_right, place_and]
  decide

theorem bge (rs1 : RegIdx) (rs2 : RegIdx) (imm : Word) : Statement (.bge rs1 rs2 imm) := by
  simp [Statement, encode, Instr.fields, DecodedFields.encode, Instr.row, encB, BitVec.and_or_distrib_right, place_and]
  decide

theorem bltu (rs1 : RegIdx) (rs2 : RegIdx) (imm : Word) : Statement (.bltu rs1 rs2 imm) := by
  simp [Statement, encode, Instr.fields, DecodedFields.encode, Instr.row, encB, BitVec.and_or_distrib_right, place_and]
  decide

theorem bgeu (rs1 : RegIdx) (rs2 : RegIdx) (imm : Word) : Statement (.bgeu rs1 rs2 imm) := by
  simp [Statement, encode, Instr.fields, DecodedFields.encode, Instr.row, encB, BitVec.and_or_distrib_right, place_and]
  decide

theorem lb (rd : RegIdx) (rs1 : RegIdx) (imm : Word) : Statement (.lb rd rs1 imm) := by
  simp [Statement, encode, Instr.fields, DecodedFields.encode, Instr.row, encI, BitVec.and_or_distrib_right, place_and]
  decide

theorem lh (rd : RegIdx) (rs1 : RegIdx) (imm : Word) : Statement (.lh rd rs1 imm) := by
  simp [Statement, encode, Instr.fields, DecodedFields.encode, Instr.row, encI, BitVec.and_or_distrib_right, place_and]
  decide

theorem lw (rd : RegIdx) (rs1 : RegIdx) (imm : Word) : Statement (.lw rd rs1 imm) := by
  simp [Statement, encode, Instr.fields, DecodedFields.encode, Instr.row, encI, BitVec.and_or_distrib_right, place_and]
  decide

theorem lbu (rd : RegIdx) (rs1 : RegIdx) (imm : Word) : Statement (.lbu rd rs1 imm) := by
  simp [Statement, encode, Instr.fields, DecodedFields.encode, Instr.row, encI, BitVec.and_or_distrib_right, place_and]
  decide

theorem lhu (rd : RegIdx) (rs1 : RegIdx) (imm : Word) : Statement (.lhu rd rs1 imm) := by
  simp [Statement, encode, Instr.fields, DecodedFields.encode, Instr.row, encI, BitVec.and_or_distrib_right, place_and]
  decide

theorem sb (rs1 : RegIdx) (rs2 : RegIdx) (imm : Word) : Statement (.sb rs1 rs2 imm) := by
  simp [Statement, encode, Instr.fields, DecodedFields.encode, Instr.row, encS, BitVec.and_or_distrib_right, place_and]
  decide

theorem sh (rs1 : RegIdx) (rs2 : RegIdx) (imm : Word) : Statement (.sh rs1 rs2 imm) := by
  simp [Statement, encode, Instr.fields, DecodedFields.encode, Instr.row, encS, BitVec.and_or_distrib_right, place_and]
  decide

theorem sw (rs1 : RegIdx) (rs2 : RegIdx) (imm : Word) : Statement (.sw rs1 rs2 imm) := by
  simp [Statement, encode, Instr.fields, DecodedFields.encode, Instr.row, encS, BitVec.and_or_distrib_right, place_and]
  decide

theorem addi (rd : RegIdx) (rs1 : RegIdx) (imm : Word) : Statement (.addi rd rs1 imm) := by
  simp [Statement, encode, Instr.fields, DecodedFields.encode, Instr.row, encI, BitVec.and_or_distrib_right, place_and]
  decide

theorem slti (rd : RegIdx) (rs1 : RegIdx) (imm : Word) : Statement (.slti rd rs1 imm) := by
  simp [Statement, encode, Instr.fields, DecodedFields.encode, Instr.row, encI, BitVec.and_or_distrib_right, place_and]
  decide

theorem sltiu (rd : RegIdx) (rs1 : RegIdx) (imm : Word) : Statement (.sltiu rd rs1 imm) := by
  simp [Statement, encode, Instr.fields, DecodedFields.encode, Instr.row, encI, BitVec.and_or_distrib_right, place_and]
  decide

theorem xori (rd : RegIdx) (rs1 : RegIdx) (imm : Word) : Statement (.xori rd rs1 imm) := by
  simp [Statement, encode, Instr.fields, DecodedFields.encode, Instr.row, encI, BitVec.and_or_distrib_right, place_and]
  decide

theorem ori (rd : RegIdx) (rs1 : RegIdx) (imm : Word) : Statement (.ori rd rs1 imm) := by
  simp [Statement, encode, Instr.fields, DecodedFields.encode, Instr.row, encI, BitVec.and_or_distrib_right, place_and]
  decide

theorem andi (rd : RegIdx) (rs1 : RegIdx) (imm : Word) : Statement (.andi rd rs1 imm) := by
  simp [Statement, encode, Instr.fields, DecodedFields.encode, Instr.row, encI, BitVec.and_or_distrib_right, place_and]
  decide

theorem slli (rd : RegIdx) (rs1 : RegIdx) (shamt : BitVec 5) : Statement (.slli rd rs1 shamt) := by
  simp [Statement, encode, Instr.fields, DecodedFields.encode, Instr.row, encI, BitVec.and_or_distrib_right, place_and, place_immOf]
  decide

theorem srli (rd : RegIdx) (rs1 : RegIdx) (shamt : BitVec 5) : Statement (.srli rd rs1 shamt) := by
  simp [Statement, encode, Instr.fields, DecodedFields.encode, Instr.row, encI, BitVec.and_or_distrib_right, place_and, place_immOf]
  decide

theorem srai (rd : RegIdx) (rs1 : RegIdx) (shamt : BitVec 5) : Statement (.srai rd rs1 shamt) := by
  simp [Statement, encode, Instr.fields, DecodedFields.encode, Instr.row, encI, BitVec.and_or_distrib_right, place_and, place_immOf]
  decide

theorem add (rd : RegIdx) (rs1 : RegIdx) (rs2 : RegIdx) : Statement (.add rd rs1 rs2) := by
  simp [Statement, encode, Instr.fields, DecodedFields.encode, Instr.row, encR, BitVec.and_or_distrib_right, place_and]
  decide

theorem sub (rd : RegIdx) (rs1 : RegIdx) (rs2 : RegIdx) : Statement (.sub rd rs1 rs2) := by
  simp [Statement, encode, Instr.fields, DecodedFields.encode, Instr.row, encR, BitVec.and_or_distrib_right, place_and]
  decide

theorem sll (rd : RegIdx) (rs1 : RegIdx) (rs2 : RegIdx) : Statement (.sll rd rs1 rs2) := by
  simp [Statement, encode, Instr.fields, DecodedFields.encode, Instr.row, encR, BitVec.and_or_distrib_right, place_and]
  decide

theorem slt (rd : RegIdx) (rs1 : RegIdx) (rs2 : RegIdx) : Statement (.slt rd rs1 rs2) := by
  simp [Statement, encode, Instr.fields, DecodedFields.encode, Instr.row, encR, BitVec.and_or_distrib_right, place_and]
  decide

theorem sltu (rd : RegIdx) (rs1 : RegIdx) (rs2 : RegIdx) : Statement (.sltu rd rs1 rs2) := by
  simp [Statement, encode, Instr.fields, DecodedFields.encode, Instr.row, encR, BitVec.and_or_distrib_right, place_and]
  decide

theorem xor (rd : RegIdx) (rs1 : RegIdx) (rs2 : RegIdx) : Statement (.xor rd rs1 rs2) := by
  simp [Statement, encode, Instr.fields, DecodedFields.encode, Instr.row, encR, BitVec.and_or_distrib_right, place_and]
  decide

theorem srl (rd : RegIdx) (rs1 : RegIdx) (rs2 : RegIdx) : Statement (.srl rd rs1 rs2) := by
  simp [Statement, encode, Instr.fields, DecodedFields.encode, Instr.row, encR, BitVec.and_or_distrib_right, place_and]
  decide

theorem sra (rd : RegIdx) (rs1 : RegIdx) (rs2 : RegIdx) : Statement (.sra rd rs1 rs2) := by
  simp [Statement, encode, Instr.fields, DecodedFields.encode, Instr.row, encR, BitVec.and_or_distrib_right, place_and]
  decide

theorem or (rd : RegIdx) (rs1 : RegIdx) (rs2 : RegIdx) : Statement (.or rd rs1 rs2) := by
  simp [Statement, encode, Instr.fields, DecodedFields.encode, Instr.row, encR, BitVec.and_or_distrib_right, place_and]
  decide

theorem and (rd : RegIdx) (rs1 : RegIdx) (rs2 : RegIdx) : Statement (.and rd rs1 rs2) := by
  simp [Statement, encode, Instr.fields, DecodedFields.encode, Instr.row, encR, BitVec.and_or_distrib_right, place_and]
  decide

theorem fence (rd : RegIdx) (funct3 : BitVec 3) (rs1 : RegIdx) (imm : Word) : Statement (.fence rd funct3 rs1 imm) := by
  simp [Statement, encode, Instr.fields, DecodedFields.encode, Instr.row, encI, BitVec.and_or_distrib_right, place_and]
  decide

theorem ecall (rd : RegIdx) (funct3 : BitVec 3) (rs1 : RegIdx) : Statement (.ecall rd funct3 rs1) := by
  simp [Statement, encode, Instr.fields, DecodedFields.encode, Instr.row, encI, BitVec.and_or_distrib_right, place_and]
  decide

theorem ebreak (rd : RegIdx) (funct3 : BitVec 3) (rs1 : RegIdx) : Statement (.ebreak rd funct3 rs1) := by
  simp [Statement, encode, Instr.fields, DecodedFields.encode, Instr.row, encI, BitVec.and_or_distrib_right, place_and]
  decide

theorem mul (rd : RegIdx) (rs1 : RegIdx) (rs2 : RegIdx) : Statement (.mul rd rs1 rs2) := by
  simp [Statement, encode, Instr.fields, DecodedFields.encode, Instr.row, encR, BitVec.and_or_distrib_right, place_and]
  decide

theorem mulh (rd : RegIdx) (rs1 : RegIdx) (rs2 : RegIdx) : Statement (.mulh rd rs1 rs2) := by
  simp [Statement, encode, Instr.fields, DecodedFields.encode, Instr.row, encR, BitVec.and_or_distrib_right, place_and]
  decide

theorem mulhsu (rd : RegIdx) (rs1 : RegIdx) (rs2 : RegIdx) : Statement (.mulhsu rd rs1 rs2) := by
  simp [Statement, encode, Instr.fields, DecodedFields.encode, Instr.row, encR, BitVec.and_or_distrib_right, place_and]
  decide

theorem mulhu (rd : RegIdx) (rs1 : RegIdx) (rs2 : RegIdx) : Statement (.mulhu rd rs1 rs2) := by
  simp [Statement, encode, Instr.fields, DecodedFields.encode, Instr.row, encR, BitVec.and_or_distrib_right, place_and]
  decide

theorem div (rd : RegIdx) (rs1 : RegIdx) (rs2 : RegIdx) : Statement (.div rd rs1 rs2) := by
  simp [Statement, encode, Instr.fields, DecodedFields.encode, Instr.row, encR, BitVec.and_or_distrib_right, place_and]
  decide

theorem divu (rd : RegIdx) (rs1 : RegIdx) (rs2 : RegIdx) : Statement (.divu rd rs1 rs2) := by
  simp [Statement, encode, Instr.fields, DecodedFields.encode, Instr.row, encR, BitVec.and_or_distrib_right, place_and]
  decide

theorem rem (rd : RegIdx) (rs1 : RegIdx) (rs2 : RegIdx) : Statement (.rem rd rs1 rs2) := by
  simp [Statement, encode, Instr.fields, DecodedFields.encode, Instr.row, encR, BitVec.and_or_distrib_right, place_and]
  decide

theorem remu (rd : RegIdx) (rs1 : RegIdx) (rs2 : RegIdx) : Statement (.remu rd rs1 rs2) := by
  simp [Statement, encode, Instr.fields, DecodedFields.encode, Instr.row, encR, BitVec.and_or_distrib_right, place_and]
  decide

theorem faddS (rd : RegIdx) (rs1 : RegIdx) (rs2 : RegIdx) (rm : BitVec 3) : Statement (.faddS rd rs1 rs2 rm) := by
  simp [Statement, encode, Instr.fields, DecodedFields.encode, Instr.row, encR, BitVec.and_or_distrib_right, place_and]
  decide

theorem fsubS (rd : RegIdx) (rs1 : RegIdx) (rs2 : RegIdx) (rm : BitVec 3) : Statement (.fsubS rd rs1 rs2 rm) := by
  simp [Statement, encode, Instr.fields, DecodedFields.encode, Instr.row, encR, BitVec.and_or_distrib_right, place_and]
  decide

theorem fmulS (rd : RegIdx) (rs1 : RegIdx) (rs2 : RegIdx) (rm : BitVec 3) : Statement (.fmulS rd rs1 rs2 rm) := by
  simp [Statement, encode, Instr.fields, DecodedFields.encode, Instr.row, encR, BitVec.and_or_distrib_right, place_and]
  decide

theorem fdivS (rd : RegIdx) (rs1 : RegIdx) (rs2 : RegIdx) (rm : BitVec 3) : Statement (.fdivS rd rs1 rs2 rm) := by
  simp [Statement, encode, Instr.fields, DecodedFields.encode, Instr.row, encR, BitVec.and_or_distrib_right, place_and]
  decide

theorem fsqrtS (rd : RegIdx) (rs1 : RegIdx) (rs2 : RegIdx) (rm : BitVec 3) : Statement (.fsqrtS rd rs1 rs2 rm) := by
  simp [Statement, encode, Instr.fields, DecodedFields.encode, Instr.row, encR, BitVec.and_or_distrib_right, place_and]
  decide

theorem fmaddS (rd : RegIdx) (rs1 : RegIdx) (rs2 : RegIdx) (rs3 : RegIdx) (rm : BitVec 3) (fmt : BitVec 2) : Statement (.fmaddS rd rs1 rs2 rs3 rm fmt) := by
  simp [Statement, encode, Instr.fields, DecodedFields.encode, Instr.row, encR4, BitVec.and_or_distrib_right, place_and]
  decide

theorem fmsubS (rd : RegIdx) (rs1 : RegIdx) (rs2 : RegIdx) (rs3 : RegIdx) (rm : BitVec 3) (fmt : BitVec 2) : Statement (.fmsubS rd rs1 rs2 rs3 rm fmt) := by
  simp [Statement, encode, Instr.fields, DecodedFields.encode, Instr.row, encR4, BitVec.and_or_distrib_right, place_and]
  decide

theorem fnmsubS (rd : RegIdx) (rs1 : RegIdx) (rs2 : RegIdx) (rs3 : RegIdx) (rm : BitVec 3) (fmt : BitVec 2) : Statement (.fnmsubS rd rs1 rs2 rs3 rm fmt) := by
  simp [Statement, encode, Instr.fields, DecodedFields.encode, Instr.row, encR4, BitVec.and_or_distrib_right, place_and]
  decide

theorem fnmaddS (rd : RegIdx) (rs1 : RegIdx) (rs2 : RegIdx) (rs3 : RegIdx) (rm : BitVec 3) (fmt : BitVec 2) : Statement (.fnmaddS rd rs1 rs2 rs3 rm fmt) := by
  simp [Statement, encode, Instr.fields, DecodedFields.encode, Instr.row, encR4, BitVec.and_or_distrib_right, place_and]
  decide

theorem fsgnjS (rd : RegIdx) (rs1 : RegIdx) (rs2 : RegIdx) : Statement (.fsgnjS rd rs1 rs2) := by
  simp [Statement, encode, Instr.fields, DecodedFields.encode, Instr.row, encR, BitVec.and_or_distrib_right, place_and]
  decide

theorem fsgnjnS (rd : RegIdx) (rs1 : RegIdx) (rs2 : RegIdx) : Statement (.fsgnjnS rd rs1 rs2) := by
  simp [Statement, encode, Instr.fields, DecodedFields.encode, Instr.row, encR, BitVec.and_or_distrib_right, place_and]
  decide

theorem fsgnjxS (rd : RegIdx) (rs1 : RegIdx) (rs2 : RegIdx) : Statement (.fsgnjxS rd rs1 rs2) := by
  simp [Statement, encode, Instr.fields, DecodedFields.encode, Instr.row, encR, BitVec.and_or_distrib_right, place_and]
  decide

theorem fminS (rd : RegIdx) (rs1 : RegIdx) (rs2 : RegIdx) : Statement (.fminS rd rs1 rs2) := by
  simp [Statement, encode, Instr.fields, DecodedFields.encode, Instr.row, encR, BitVec.and_or_distrib_right, place_and]
  decide

theorem fmaxS (rd : RegIdx) (rs1 : RegIdx) (rs2 : RegIdx) : Statement (.fmaxS rd rs1 rs2) := by
  simp [Statement, encode, Instr.fields, DecodedFields.encode, Instr.row, encR, BitVec.and_or_distrib_right, place_and]
  decide

theorem fcvtWS (rd : RegIdx) (rs1 : RegIdx) (rm : BitVec 3) : Statement (.fcvtWS rd rs1 rm) := by
  simp [Statement, encode, Instr.fields, DecodedFields.encode, Instr.row, encR, BitVec.and_or_distrib_right, place_and]
  decide

theorem fcvtWUS (rd : RegIdx) (rs1 : RegIdx) (rm : BitVec 3) : Statement (.fcvtWUS rd rs1 rm) := by
  simp [Statement, encode, Instr.fields, DecodedFields.encode, Instr.row, encR, BitVec.and_or_distrib_right, place_and]
  decide

theorem fcvtSW (rd : RegIdx) (rs1 : RegIdx) (rm : BitVec 3) : Statement (.fcvtSW rd rs1 rm) := by
  simp [Statement, encode, Instr.fields, DecodedFields.encode, Instr.row, encR, BitVec.and_or_distrib_right, place_and]
  decide

theorem fcvtSWU (rd : RegIdx) (rs1 : RegIdx) (rm : BitVec 3) : Statement (.fcvtSWU rd rs1 rm) := by
  simp [Statement, encode, Instr.fields, DecodedFields.encode, Instr.row, encR, BitVec.and_or_distrib_right, place_and]
  decide

theorem fmvXW (rd : RegIdx) (rs1 : RegIdx) (rs2 : RegIdx) : Statement (.fmvXW rd rs1 rs2) := by
  simp [Statement, encode, Instr.fields, DecodedFields.encode, Instr.row, encR, BitVec.and_or_distrib_right, place_and]
  decide

theorem fmvWX (rd : RegIdx) (rs1 : RegIdx) (rs2 : RegIdx) : Statement (.fmvWX rd rs1 rs2) := by
  simp [Statement, encode, Instr.fields, DecodedFields.encode, Instr.row, encR, BitVec.and_or_distrib_right, place_and]
  decide

theorem feqS (rd : RegIdx) (rs1 : RegIdx) (rs2 : RegIdx) : Statement (.feqS rd rs1 rs2) := by
  simp [Statement, encode, Instr.fields, DecodedFields.encode, Instr.row, encR, BitVec.and_or_distrib_right, place_and]
  decide

theorem fltS (rd : RegIdx) (rs1 : RegIdx) (rs2 : RegIdx) : Statement (.fltS rd rs1 rs2) := by
  simp [Statement, encode, Instr.fields, DecodedFields.encode, Instr.row, encR, BitVec.and_or_distrib_right, place_and]
  decide

theorem fleS (rd : RegIdx) (rs1 : RegIdx) (rs2 : RegIdx) : Statement (.fleS rd rs1 rs2) := by
  simp [Statement, encode, Instr.fields, DecodedFields.encode, Instr.row, encR, BitVec.and_or_distrib_right, place_and]
  decide

theorem fclassS (rd : RegIdx) (rs1 : RegIdx) (rs2 : RegIdx) : Statement (.fclassS rd rs1 rs2) := by
  simp [Statement, encode, Instr.fields, DecodedFields.encode, Instr.row, encR, BitVec.and_or_distrib_right, place_and]
  decide

theorem andn (rd : RegIdx) (rs1 : RegIdx) (rs2 : RegIdx) : Statement (.andn rd rs1 rs2) := by
  simp [Statement, encode, Instr.fields, DecodedFields.encode, Instr.row, encR, BitVec.and_or_distrib_right, place_and]
  decide

theorem orn (rd : RegIdx) (rs1 : RegIdx) (rs2 : RegIdx) : Statement (.orn rd rs1 rs2) := by
  simp [Statement, encode, Instr.fields, DecodedFields.encode, Instr.row, encR, BitVec.and_or_distrib_right, place_and]
  decide

theorem xnor (rd : RegIdx) (rs1 : RegIdx) (rs2 : RegIdx) : Statement (.xnor rd rs1 rs2) := by
  simp [Statement, encode, Instr.fields, DecodedFields.encode, Instr.row, encR, BitVec.and_or_distrib_right, place_and]
  decide

theorem clz (rd : RegIdx) (rs1 : RegIdx) : Statement (.clz rd rs1) := by
  simp [Statement, encode, Instr.fields, DecodedFields.encode, Instr.row, encI, BitVec.and_or_distrib_right, place_and, place_immOf]
  decide

theorem ctz (rd : RegIdx) (rs1 : RegIdx) : Statement (.ctz rd rs1) := by
  simp [Statement, encode, Instr.fields, DecodedFields.encode, Instr.row, encI, BitVec.and_or_distrib_right, place_and, place_immOf]
  decide

theorem cpop (rd : RegIdx) (rs1 : RegIdx) : Statement (.cpop rd rs1) := by
  simp [Statement, encode, Instr.fields, DecodedFields.encode, Instr.row, encI, BitVec.and_or_distrib_right, place_and, place_immOf]
  decide

theorem min (rd : RegIdx) (rs1 : RegIdx) (rs2 : RegIdx) : Statement (.min rd rs1 rs2) := by
  simp [Statement, encode, Instr.fields, DecodedFields.encode, Instr.row, encR, BitVec.and_or_distrib_right, place_and]
  decide

theorem max (rd : RegIdx) (rs1 : RegIdx) (rs2 : RegIdx) : Statement (.max rd rs1 rs2) := by
  simp [Statement, encode, Instr.fields, DecodedFields.encode, Instr.row, encR, BitVec.and_or_distrib_right, place_and]
  decide

theorem minu (rd : RegIdx) (rs1 : RegIdx) (rs2 : RegIdx) : Statement (.minu rd rs1 rs2) := by
  simp [Statement, encode, Instr.fields, DecodedFields.encode, Instr.row, encR, BitVec.and_or_distrib_right, place_and]
  decide

theorem maxu (rd : RegIdx) (rs1 : RegIdx) (rs2 : RegIdx) : Statement (.maxu rd rs1 rs2) := by
  simp [Statement, encode, Instr.fields, DecodedFields.encode, Instr.row, encR, BitVec.and_or_distrib_right, place_and]
  decide

theorem sextB (rd : RegIdx) (rs1 : RegIdx) : Statement (.sextB rd rs1) := by
  simp [Statement, encode, Instr.fields, DecodedFields.encode, Instr.row, encI, BitVec.and_or_distrib_right, place_and, place_immOf]
  decide

theorem sextH (rd : RegIdx) (rs1 : RegIdx) : Statement (.sextH rd rs1) := by
  simp [Statement, encode, Instr.fields, DecodedFields.encode, Instr.row, encI, BitVec.and_or_distrib_right, place_and, place_immOf]
  decide

theorem zextH (rd : RegIdx) (rs1 : RegIdx) (rs2 : RegIdx) : Statement (.zextH rd rs1 rs2) := by
  simp [Statement, encode, Instr.fields, DecodedFields.encode, Instr.row, encR, BitVec.and_or_distrib_right, place_and]
  decide

theorem rol (rd : RegIdx) (rs1 : RegIdx) (rs2 : RegIdx) : Statement (.rol rd rs1 rs2) := by
  simp [Statement, encode, Instr.fields, DecodedFields.encode, Instr.row, encR, BitVec.and_or_distrib_right, place_and]
  decide

theorem ror (rd : RegIdx) (rs1 : RegIdx) (rs2 : RegIdx) : Statement (.ror rd rs1 rs2) := by
  simp [Statement, encode, Instr.fields, DecodedFields.encode, Instr.row, encR, BitVec.and_or_distrib_right, place_and]
  decide

theorem rori (rd : RegIdx) (rs1 : RegIdx) (shamt : BitVec 5) : Statement (.rori rd rs1 shamt) := by
  simp [Statement, encode, Instr.fields, DecodedFields.encode, Instr.row, encI, BitVec.and_or_distrib_right, place_and, place_immOf]
  decide

theorem orcB (rd : RegIdx) (rs1 : RegIdx) (lo : BitVec 5) : Statement (.orcB rd rs1 lo) := by
  simp [Statement, encode, Instr.fields, DecodedFields.encode, Instr.row, encI, BitVec.and_or_distrib_right, place_and, place_immOf]
  decide

theorem rev8 (rd : RegIdx) (rs1 : RegIdx) (lo : BitVec 5) : Statement (.rev8 rd rs1 lo) := by
  simp [Statement, encode, Instr.fields, DecodedFields.encode, Instr.row, encI, BitVec.and_or_distrib_right, place_and, place_immOf]
  decide

end Sys2Proof.Laws.MatchesRow
end

