-- ==== Sys2Proof/Tests/Slice0.lean ====
section
/-! SUPPORT. The model's own tests. Expected results come from the spec's tables and examples (95_test_vectors.md tables S,
D, K, A, B, L, M, F, Z, E and the examples of each instruction's rule), never from the model. Each step test runs ONE step
under the tables' conventions. The `witness_` theorems show, for every obligation with hypotheses, a state and operands
that meet them, clause by clause. -/

namespace Sys2Proof.Tests

open Sys2Proof.Machine Sys2Proof.Claims

set_option Elab.async false
set_option maxRecDepth 4000

/-! ## Small states -/

/-- The tables' parameters: MEM_SIZE 0x2000, policy allow; the open choices at one of their legal values. -/
def params : Config.Params where
  memSize := 0x2000
  misalignedDataPolicy := .allow
  fcvtTieBreak := .tiesToEven
  fcvtNaNW := .upper
  fcvtNaNWU := .lower

/-- pc 0x100, memory empty, every register `Unwritten`. -/
def base : State :=
  State.launch { params := params, initX := unwrittenFile, initF := unwrittenFile, initMem := [], entry := 0x100 }

def withX (s : State) (l : List (RegIdx × Word)) : State := l.foldl (fun t p => t.writeX p.1 p.2) s
def withF (s : State) (l : List (RegIdx × Word)) : State := l.foldl (fun t p => t.writeF p.1 p.2) s

/-- The instruction word `w` at pc 0x100, with these integer and float registers written. -/
def at100 (w : Word) (x f : List (RegIdx × Word)) : State := withF (withX (base.placeWord w) x) f

/-- After one step: the integer register, and the pc, of a state still Running. -/
def outX (s : State) (r : RegIdx) : Option (Word × Word) :=
  match step s with
  | .next t => if t.run = .running then match t.xCell r with | .val v => some (v, t.pc) | .unwritten => none else none
  | .fault _ => none
  | .refused _ => none

/-- After one step: the float register, and the pc, of a state still Running. -/
def outF (s : State) (r : RegIdx) : Option (Word × Word) :=
  match step s with
  | .next t => if t.run = .running then match t.fCell r with | .val v => some (v, t.pc) | .unwritten => none else none
  | .fault _ => none
  | .refused _ => none

/-- After one step: the pc of a state still Running. -/
def outPc (s : State) : Option Word :=
  match step s with
  | .next t => if t.run = .running then some t.pc else none
  | .fault _ => none
  | .refused _ => none

/-- After one step: the byte at an address of a state still Running. -/
def outByte (s : State) (a : Nat) : Option Byte :=
  match step s with
  | .next t => if t.run = .running then some (t.mem.read a) else none
  | .fault _ => none
  | .refused _ => none

/-- After one step: the stop outcome and the recorded pc. -/
def outStop (s : State) : Option (StopReason × Word) :=
  match step s with
  | .next t => match t.run with | .faulted r => some (r.reason, r.pc) | .running => none | .halted _ => none
  | .fault _ => none
  | .refused _ => none

/-- The table's data at 0x200: 80 FF 34 12. -/
def withData (s : State) : State := { s with mem := s.mem.writeBytes 0x200 [0x80, 0xFF, 0x34, 0x12] }

/-- The policy `fault`. -/
def strict (s : State) : State := { s with params := { s.params with misalignedDataPolicy := .fault } }

/-! ## WellFormed: an ill-formed term for each check, which the check refuses (30_encoding.md R100 to R104) -/

theorem test_wf_imm12 :
    (Instr.addi 1 1 2048).wf = false ∧
    (Instr.sw 1 2 (-2049)).wf = false ∧
    (Instr.addi 1 1 2047).wf = true ∧
    (Instr.sw 1 2 (-2048)).wf = true :=
  by decide +kernel

theorem test_wf_imm13 :
    (Instr.beq 1 2 3).wf = false ∧
    (Instr.beq 1 2 4096).wf = false ∧
    (Instr.beq 1 2 (-4098)).wf = false ∧
    (Instr.beq 1 2 4094).wf = true ∧
    (Instr.beq 1 2 (-4096)).wf = true :=
  by decide +kernel

theorem test_wf_imm21 :
    (Instr.jal 1 1).wf = false ∧
    (Instr.jal 1 1048576).wf = false ∧
    (Instr.jal 1 (-1048578)).wf = false ∧
    (Instr.jal 1 1048574).wf = true ∧
    (Instr.jal 1 (-1048576)).wf = true :=
  by decide +kernel

theorem test_wf_immU :
    (Instr.lui 1 0x00000FFF).wf = false ∧
    (Instr.auipc 1 1).wf = false ∧
    (Instr.lui 1 0xFFFFF000).wf = true :=
  by decide +kernel

theorem test_reset_memory_canonical : State.reset.mem.wf = true := rfl

/-! ## Decoding: a word of every constructor, written out from its row and its rule's example -/

theorem test_decode_upper_and_jumps :
    decode 0x123450B7 = .ok (.lui 1 0x12345000) ∧
    decode 0x00001297 = .ok (.auipc 5 0x00001000) ∧
    decode 0x020000EF = .ok (.jal 1 0x20) ∧
    decode 0x004280E7 = .ok (.jalr 1 0 5 4) :=
  by decide +kernel

theorem test_decode_branches :
    decode 0xF02080E3 = .ok (.beq 1 2 (-256)) ∧
    decode 0xF02090E3 = .ok (.bne 1 2 (-256)) ∧
    decode 0xF020C0E3 = .ok (.blt 1 2 (-256)) ∧
    decode 0xF020D0E3 = .ok (.bge 1 2 (-256)) ∧
    decode 0xF020E0E3 = .ok (.bltu 1 2 (-256)) ∧
    decode 0xF020F0E3 = .ok (.bgeu 1 2 (-256)) :=
  by decide +kernel

theorem test_decode_loads :
    decode 0xFFF08283 = .ok (.lb 5 1 (-1)) ∧
    decode 0x00209283 = .ok (.lh 5 1 2) ∧
    decode 0x0010A283 = .ok (.lw 5 1 1) ∧
    decode 0x0010C283 = .ok (.lbu 5 1 1) ∧
    decode 0x0000D283 = .ok (.lhu 5 1 0) :=
  by decide +kernel

theorem test_decode_stores :
    decode 0x002081A3 = .ok (.sb 1 2 3) ∧
    decode 0x00209023 = .ok (.sh 1 2 0) ∧
    decode 0x0020A423 = .ok (.sw 1 2 8) :=
  by decide +kernel

theorem test_decode_op_imm :
    decode 0xFFF08193 = .ok (.addi 3 1 (-1)) ∧
    decode 0xFFF0A193 = .ok (.slti 3 1 (-1)) ∧
    decode 0xFFF0B193 = .ok (.sltiu 3 1 (-1)) ∧
    decode 0xFFF0C193 = .ok (.xori 3 1 (-1)) ∧
    decode 0x0F00E193 = .ok (.ori 3 1 0xF0) ∧
    decode 0xFF00F193 = .ok (.andi 3 1 (-16)) ∧
    decode 0x01F09193 = .ok (.slli 3 1 31) ∧
    decode 0x0040D193 = .ok (.srli 3 1 4) ∧
    decode 0x4040D193 = .ok (.srai 3 1 4) :=
  by decide +kernel

theorem test_decode_op :
    decode 0x002081B3 = .ok (.add 3 1 2) ∧
    decode 0x402081B3 = .ok (.sub 3 1 2) ∧
    decode 0x002091B3 = .ok (.sll 3 1 2) ∧
    decode 0x0020A1B3 = .ok (.slt 3 1 2) ∧
    decode 0x0020B1B3 = .ok (.sltu 3 1 2) ∧
    decode 0x0020C1B3 = .ok (.xor 3 1 2) ∧
    decode 0x0020D1B3 = .ok (.srl 3 1 2) ∧
    decode 0x4020D1B3 = .ok (.sra 3 1 2) ∧
    decode 0x0020E1B3 = .ok (.or 3 1 2) ∧
    decode 0x0020F1B3 = .ok (.and 3 1 2) :=
  by decide +kernel

theorem test_decode_system :
    decode 0x0FF0000F = .ok (.fence 0 0 0 0xFF) ∧
    decode 0x00000073 = .ok (.ecall 0 0 0) ∧
    decode 0x00100073 = .ok (.ebreak 0 0 0) :=
  by decide +kernel

theorem test_decode_mul_div :
    decode 0x022081B3 = .ok (.mul 3 1 2) ∧
    decode 0x022091B3 = .ok (.mulh 3 1 2) ∧
    decode 0x0220A1B3 = .ok (.mulhsu 3 1 2) ∧
    decode 0x0220B1B3 = .ok (.mulhu 3 1 2) ∧
    decode 0x0220C1B3 = .ok (.div 3 1 2) ∧
    decode 0x0220D1B3 = .ok (.divu 3 1 2) ∧
    decode 0x0220E1B3 = .ok (.rem 3 1 2) ∧
    decode 0x0220F1B3 = .ok (.remu 3 1 2) :=
  by decide +kernel

theorem test_decode_float_arithmetic :
    decode 0x002091D3 = .ok (.faddS 3 1 2 1) ∧
    decode 0x082081D3 = .ok (.fsubS 3 1 2 0) ∧
    decode 0x102081D3 = .ok (.fmulS 3 1 2 0) ∧
    decode 0x182081D3 = .ok (.fdivS 3 1 2 0) ∧
    decode 0x580081D3 = .ok (.fsqrtS 3 1 0 0) ∧
    decode 0x18208243 = .ok (.fmaddS 4 1 2 3 0 0) ∧
    decode 0x18208247 = .ok (.fmsubS 4 1 2 3 0 0) ∧
    decode 0x1820824B = .ok (.fnmsubS 4 1 2 3 0 0) ∧
    decode 0x1820824F = .ok (.fnmaddS 4 1 2 3 0 0) :=
  by decide +kernel

theorem test_decode_float_other :
    decode 0x202081D3 = .ok (.fsgnjS 3 1 2) ∧
    decode 0x202091D3 = .ok (.fsgnjnS 3 1 2) ∧
    decode 0x2020A1D3 = .ok (.fsgnjxS 3 1 2) ∧
    decode 0x282081D3 = .ok (.fminS 3 1 2) ∧
    decode 0x282091D3 = .ok (.fmaxS 3 1 2) ∧
    decode 0xC00081D3 = .ok (.fcvtWS 3 1 0) ∧
    decode 0xC01081D3 = .ok (.fcvtWUS 3 1 0) ∧
    decode 0xD00081D3 = .ok (.fcvtSW 3 1 0) ∧
    decode 0xD01081D3 = .ok (.fcvtSWU 3 1 0) ∧
    decode 0xE00081D3 = .ok (.fmvXW 3 1 0) ∧
    decode 0xF00081D3 = .ok (.fmvWX 3 1 0) ∧
    decode 0xA020A1D3 = .ok (.feqS 3 1 2) ∧
    decode 0xA02091D3 = .ok (.fltS 3 1 2) ∧
    decode 0xA02081D3 = .ok (.fleS 3 1 2) ∧
    decode 0xE00091D3 = .ok (.fclassS 3 1 0) :=
  by decide +kernel

theorem test_decode_bitmanip :
    decode 0x4020F1B3 = .ok (.andn 3 1 2) ∧
    decode 0x4020E1B3 = .ok (.orn 3 1 2) ∧
    decode 0x4020C1B3 = .ok (.xnor 3 1 2) ∧
    decode 0x60009193 = .ok (.clz 3 1) ∧
    decode 0x60109193 = .ok (.ctz 3 1) ∧
    decode 0x60209193 = .ok (.cpop 3 1) ∧
    decode 0x0A20C1B3 = .ok (.min 3 1 2) ∧
    decode 0x0A20E1B3 = .ok (.max 3 1 2) ∧
    decode 0x0A20D1B3 = .ok (.minu 3 1 2) ∧
    decode 0x0A20F1B3 = .ok (.maxu 3 1 2) ∧
    decode 0x60409193 = .ok (.sextB 3 1) ∧
    decode 0x60509193 = .ok (.sextH 3 1) ∧
    decode 0x0800C1B3 = .ok (.zextH 3 1 0) ∧
    decode 0x602091B3 = .ok (.rol 3 1 2) ∧
    decode 0x6020D1B3 = .ok (.ror 3 1 2) ∧
    decode 0x6100D193 = .ok (.rori 3 1 16) ∧
    decode 0x2870D193 = .ok (.orcB 3 1 7) ∧
    decode 0x6980D193 = .ok (.rev8 3 1 0x18) :=
  by decide +kernel

/-- Table D. -/
theorem test_decode_fields_I :
    decode 0xFFF00093 = .ok (.addi 1 0 0xFFFFFFFF) ∧
    decode 0x7FF00093 = .ok (.addi 1 0 2047) ∧
    decode 0x80000093 = .ok (.addi 1 0 (-2048)) :=
  by decide +kernel

/-- Table D. -/
theorem test_decode_fields_S :
    decode 0xFE20AFA3 = .ok (.sw 1 2 (-1)) ∧
    decode 0x7E20AFA3 = .ok (.sw 1 2 2047) ∧
    decode 0x8020A023 = .ok (.sw 1 2 (-2048)) ∧
    decode 0x5420AAA3 = .ok (.sw 1 2 0x555) :=
  by decide +kernel

/-- Table D. -/
theorem test_decode_fields_B :
    decode 0x80208063 = .ok (.beq 1 2 (-4096)) ∧
    decode 0x7E208FE3 = .ok (.beq 1 2 4094) ∧
    decode 0xFE208FE3 = .ok (.beq 1 2 (-2)) ∧
    decode 0x000000E3 = .ok (.beq 0 0 2048) :=
  by decide +kernel

/-- Table D. -/
theorem test_decode_fields_J :
    decode 0x800000EF = .ok (.jal 1 (-1048576)) ∧
    decode 0x7FFFF0EF = .ok (.jal 1 1048574) ∧
    decode 0xFFFFF06F = .ok (.jal 0 (-2)) ∧
    decode 0x001000EF = .ok (.jal 1 2048) :=
  by decide +kernel

/-- Table D, its last line. -/
theorem test_encode_round_trip :
    encode (.addi 1 0 (-2048)) = 0x80000093 ∧
    encode (.sw 1 2 0x555) = 0x5420AAA3 ∧
    encode (.beq 1 2 (-4096)) = 0x80208063 ∧
    encode (.jal 1 1048574) = 0x7FFFF0EF ∧
    encode (.lui 1 0xFFFFF000) = 0xFFFFF0B7 ∧
    encode (.fmaddS 4 1 2 3 0 0) = 0x18208243 :=
  by decide +kernel

/-- Table K and 30_encoding.md R141. -/
theorem test_dispatch_unknown :
    decode 0x00000000 = .error .unknownOpcode ∧
    decode 0xFFFFFFFF = .error .unknownOpcode ∧
    decode 0x0000507F = .error .unknownOpcode ∧
    decode 0x40001033 = .error .unknownInstruction ∧
    decode 0x00200073 = .error .unknownInstruction ∧
    decode 0x10500073 = .error .unknownInstruction ∧
    decode 0x60609013 = .error .unknownInstruction ∧
    decode 0xC0200053 = .error .unknownInstruction ∧
    decode 0x00003003 = .error .unknownInstruction ∧
    decode 0x00006003 = .error .unknownInstruction ∧
    decode 0x00003023 = .error .unknownInstruction ∧
    decode 0x00002063 = .error .unknownInstruction ∧
    decode 0x02001013 = .error .unknownInstruction ∧
    decode 0x30200073 = .error .unknownInstruction ∧
    decode 0xC00020F3 = .error .unknownInstruction ∧
    decode 0x02000053 = .error .unknownInstruction :=
  by decide +kernel

/-- Table K. -/
theorem test_dispatch_aliases :
    decode 0x0000100F = .ok (.fence 0 1 0 0) ∧
    decode 0x00001073 = .ok (.ecall 0 1 0) ∧
    decode 0x60305013 = .ok (.rori 0 0 3) ∧
    decode 0x28805013 = .ok (.orcB 0 0 8) ∧
    decode 0x68705013 = .ok (.rev8 0 0 7) ∧
    decode 0x08104033 = .ok (.zextH 0 0 1) ∧
    decode 0xE0101053 = .ok (.fclassS 0 0 1) ∧
    decode 0x0000F053 = .ok (.faddS 0 1 0 7) ∧
    decode 0x00005053 = .ok (.faddS 0 0 0 5) :=
  by decide +kernel

theorem test_decodeTableWord :
    decodeTableWord 32 0x00500093 = some (.addi 1 0 5) ∧
    decodeTableWord 32 0 = none :=
  by decide +kernel

/-! ## Table A: integer ALU -/

theorem test_add :
    outX (at100 0x002081B3 [(1, 0x7FFFFFFF), (2, 1)] []) 3 = some (0x80000000, 0x104) ∧
    outX (at100 0x001080B3 [(1, 0x40000000)] []) 1 = some (0x80000000, 0x104) :=
  by decide +kernel

theorem test_sub : outX (at100 0x402081B3 [(1, 0), (2, 1)] []) 3 = some (0xFFFFFFFF, 0x104) := by decide +kernel

theorem test_sll : outX (at100 0x002091B3 [(1, 1), (2, 33)] []) 3 = some (2, 0x104) := by decide +kernel

theorem test_slt : outX (at100 0x0020A1B3 [(1, 0x80000000), (2, 1)] []) 3 = some (1, 0x104) := by decide +kernel

theorem test_sltu : outX (at100 0x0020B1B3 [(1, 0x80000000), (2, 1)] []) 3 = some (0, 0x104) := by decide +kernel

theorem test_srl : outX (at100 0x0020D1B3 [(1, 0x80000000), (2, 31)] []) 3 = some (1, 0x104) := by decide +kernel

theorem test_sra :
    outX (at100 0x4020D1B3 [(1, 0x80000000), (2, 31)] []) 3 = some (0xFFFFFFFF, 0x104) :=
  by decide +kernel

theorem test_xor :
    outX (at100 0x0020C1B3 [(1, 0xF0F0F0F0), (2, 0xFF00FF00)] []) 3 = some (0x0FF00FF0, 0x104) :=
  by decide +kernel

theorem test_or :
    outX (at100 0x0020E1B3 [(1, 0xF0F0F0F0), (2, 0xFF00FF00)] []) 3 = some (0xFFF0FFF0, 0x104) :=
  by decide +kernel

theorem test_and :
    outX (at100 0x0020F1B3 [(1, 0xF0F0F0F0), (2, 0xFF00FF00)] []) 3 = some (0xF000F000, 0x104) :=
  by decide +kernel

theorem test_addi :
    outX (at100 0xFFF08193 [(1, 0)] []) 3 = some (0xFFFFFFFF, 0x104) ∧
    outX (at100 0x00508013 [(1, 1)] []) 0 = some (0, 0x104) :=
  by decide +kernel

theorem test_slti : outX (at100 0xFFF0A193 [(1, 0x80000000)] []) 3 = some (1, 0x104) := by decide +kernel

theorem test_sltiu : outX (at100 0xFFF0B193 [(1, 0xFFFFFFFE)] []) 3 = some (1, 0x104) := by decide +kernel

theorem test_xori : outX (at100 0xFFF0C193 [(1, 0x12345678)] []) 3 = some (0xEDCBA987, 0x104) := by decide +kernel

theorem test_ori : outX (at100 0x0F00E193 [(1, 0x12345600)] []) 3 = some (0x123456F0, 0x104) := by decide +kernel

theorem test_andi : outX (at100 0xFF00F193 [(1, 0x12345678)] []) 3 = some (0x12345670, 0x104) := by decide +kernel

theorem test_slli : outX (at100 0x01F09193 [(1, 3)] []) 3 = some (0x80000000, 0x104) := by decide +kernel

theorem test_srli : outX (at100 0x0040D193 [(1, 0x80000000)] []) 3 = some (0x08000000, 0x104) := by decide +kernel

theorem test_srai : outX (at100 0x4040D193 [(1, 0x80000000)] []) 3 = some (0xF8000000, 0x104) := by decide +kernel

theorem test_lui : outX (at100 0xFFFFF1B7 [] []) 3 = some (0xFFFFF000, 0x104) := by decide +kernel

theorem test_auipc : outX (at100 0xFFFFF197 [] []) 3 = some (0xFFFFF100, 0x104) := by decide +kernel

theorem test_unwritten :
    outStop (at100 0x002081B3 [(1, 1)] []) = some (.unwrittenRegister .X 2, 0x100) :=
  by decide +kernel

/-! ## Table B: branches and jumps -/

theorem test_beq :
    outPc (at100 0xF02080E3 [(1, 5), (2, 5)] []) = some 0x000 ∧
    outPc (at100 0x00000163 [] []) = some 0x102 :=
  by decide +kernel

theorem test_bne :
    outPc (at100 0xF02090E3 [(1, 5), (2, 5)] []) = some 0x104 ∧
    outPc (at100 0xEE009EE3 [(1, 1)] []) = some 0xFFFFFFFC :=
  by decide +kernel

theorem test_blt :
    outPc (at100 0xF020C0E3 [(1, 0x80000000), (2, 0)] []) = some 0x000 ∧
    outPc (at100 0xF020C0E3 [(1, 0x7FFFFFFF), (2, 0x80000000)] []) = some 0x104 :=
  by decide +kernel

theorem test_bge : outPc (at100 0xF020D0E3 [(1, 0x80000000), (2, 0)] []) = some 0x104 := by decide +kernel

theorem test_bltu : outPc (at100 0xF020E0E3 [(1, 0x80000000), (2, 0)] []) = some 0x104 := by decide +kernel

theorem test_bgeu :
    outPc (at100 0xF020F0E3 [(1, 0x80000000), (2, 0)] []) = some 0x000 ∧
    outPc (at100 0xF020F0E3 [(1, 0), (2, 0)] []) = some 0x000 :=
  by decide +kernel

theorem test_jal :
    outX (at100 0xF01FF0EF [] []) 1 = some (0x104, 0x000) ∧
    outPc (at100 0x0000006F [] []) = some 0x100 :=
  by decide +kernel

theorem test_jalr :
    outX (at100 0xFFF080E7 [(1, 0x205)] []) 1 = some (0x104, 0x204) ∧
    outPc (at100 0x00028067 [(5, 0x203)] []) = some 0x202 :=
  by decide +kernel

/-! ## Table L: loads and stores -/

theorem test_store_out_of_range :
    outStop (at100 0x0020A023 [(1, 0x1FFE), (2, 1)] []) = some (.storeOutOfRange 0x1FFE, 0x100) :=
  by decide +kernel

theorem test_sb : outByte (at100 0x002081A3 [(1, 0x1FFC), (2, 0x1AB)] []) 0x1FFF = some 0xAB := by decide +kernel

/-- 42_load_store.md R227. -/
theorem test_sh :
    outByte (at100 0x00209023 [(1, 0x200), (2, 0xAABBCCDD)] []) 0x200 = some 0xDD ∧
    outByte (at100 0x00209023 [(1, 0x200), (2, 0xAABBCCDD)] []) 0x201 = some 0xCC ∧
    outByte (at100 0x00209023 [(1, 0x200), (2, 0xAABBCCDD)] []) 0x202 = some 0 :=
  by decide +kernel

/-- 42_load_store.md R228. -/
theorem test_sw :
    outByte (at100 0x0020A423 [(1, 0x200), (2, 0xAABBCCDD)] []) 0x208 = some 0xDD ∧
    outByte (at100 0x0020A423 [(1, 0x200), (2, 0xAABBCCDD)] []) 0x20B = some 0xAA :=
  by decide +kernel

theorem test_lb :
    outX (withData (at100 0x00008283 [(1, 0x200)] [])) 5 = some (0xFFFFFF80, 0x104) ∧
    outX (withData (at100 0x00308283 [(1, 0x200)] [])) 5 = some (0x12, 0x104) :=
  by decide +kernel

theorem test_lbu : outX (withData (at100 0x0010C283 [(1, 0x200)] [])) 5 = some (0xFF, 0x104) := by decide +kernel

theorem test_lh :
    outX (withData (at100 0x00009283 [(1, 0x200)] [])) 5 = some (0xFFFFFF80, 0x104) ∧
    outX (withData (at100 0x00209283 [(1, 0x200)] [])) 5 = some (0x1234, 0x104) :=
  by decide +kernel

theorem test_lhu : outX (withData (at100 0x0000D283 [(1, 0x200)] [])) 5 = some (0xFF80, 0x104) := by decide +kernel

theorem test_lw :
    outX (withData (at100 0x0000A283 [(1, 0x200)] [])) 5 = some (0x1234FF80, 0x104) ∧
    outX (withData (at100 0x0010A283 [(1, 0x200)] [])) 5 = some (0x001234FF, 0x104) ∧
    outStop (strict (withData (at100 0x0010A283 [(1, 0x200)] []))) = some (.loadMisaligned 0x201, 0x100) :=
  by decide +kernel

theorem test_load :
    outStop (at100 0x0000A283 [(1, 0x1FFD)] []) = some (.loadOutOfRange 0x1FFD, 0x100) ∧
    outStop (at100 0xFFC0A283 [(1, 0)] []) = some (.loadOutOfRange 0xFFFFFFFC, 0x100) ∧
    outStop (at100 0x00008003 [(1, 0x2000)] []) = some (.loadOutOfRange 0x2000, 0x100) :=
  by decide +kernel

/-! ## Table M and the source's S5 to S13: multiply and divide -/

theorem test_mul :
    outX (at100 0x022081B3 [(1, 0xFFFFFFFF), (2, 0xFFFFFFFF)] []) 3 = some (1, 0x104) :=
  by decide +kernel

theorem test_mulh :
    outX (at100 0x022091B3 [(1, 0x80000000), (2, 0x80000000)] []) 3 = some (0x40000000, 0x104) ∧
    outX (at100 0x022091B3 [(1, 0xFFFFFFFF), (2, 0xFFFFFFFF)] []) 3 = some (0, 0x104) :=
  by decide +kernel

theorem test_mulhsu :
    outX (at100 0x0220A1B3 [(1, 0x80000000), (2, 0xFFFFFFFF)] []) 3 = some (0x80000000, 0x104) :=
  by decide +kernel

theorem test_mulhu :
    outX (at100 0x0220B1B3 [(1, 0xFFFFFFFF), (2, 0xFFFFFFFF)] []) 3 = some (0xFFFFFFFE, 0x104) :=
  by decide +kernel

theorem test_div :
    outX (at100 0x0220C1B3 [(1, 0xFFFFFFF9), (2, 2)] []) 3 = some (0xFFFFFFFD, 0x104) ∧
    outX (at100 0x0220C1B3 [(1, 0x80000000), (2, 0xFFFFFFFF)] []) 3 = some (0x80000000, 0x104) :=
  by decide +kernel

theorem test_divu :
    outX (at100 0x0220D1B3 [(1, 0xFFFFFFFF), (2, 2)] []) 3 = some (0x7FFFFFFF, 0x104) ∧
    outX (at100 0x0220D1B3 [(1, 5), (2, 0)] []) 3 = some (0xFFFFFFFF, 0x104) :=
  by decide +kernel

theorem test_rem :
    outX (at100 0x0220E1B3 [(1, 0xFFFFFFF9), (2, 2)] []) 3 = some (0xFFFFFFFF, 0x104) ∧
    outX (at100 0x0220E1B3 [(1, 0x80000000), (2, 0xFFFFFFFF)] []) 3 = some (0, 0x104) :=
  by decide +kernel

theorem test_remu :
    outX (at100 0x0220F1B3 [(1, 0xFFFFFFFF), (2, 10)] []) 3 = some (5, 0x104) ∧
    outX (at100 0x0220F1B3 [(1, 5), (2, 0)] []) 3 = some (5, 0x104) :=
  by decide +kernel

/-! ## Table F and the examples of 45_float.md -/

/-- Before any register is read. -/
theorem test_reserved_rounding_mode :
    outStop (at100 0x0020D1D3 [] []) = some (.reservedRoundingMode 5, 0x100) :=
  by decide +kernel

theorem test_fadd :
    outF (at100 0x002081D3 [] [(1, 1), (2, 1)]) 3 = some (2, 0x104) ∧
    outF (at100 0x002091D3 [] [(1, 0x7F7FFFFF), (2, 0x7F7FFFFF)]) 3 = some (0x7F7FFFFF, 0x104) :=
  by decide +kernel

theorem test_fsub :
    outF (at100 0x082081D3 [] [(1, 0x3F800000), (2, 0x3F800000)]) 3 = some (0, 0x104) ∧
    outF (at100 0x0820A1D3 [] [(1, 0x3F800000), (2, 0x3F800000)]) 3 = some (0x80000000, 0x104) :=
  by decide +kernel

theorem test_fmul :
    outF (at100 0x102081D3 [] [(1, 1), (2, 0x3F000000)]) 3 = some (0, 0x104) ∧
    outF (at100 0x1020B1D3 [] [(1, 1), (2, 0x3F000000)]) 3 = some (1, 0x104) :=
  by decide +kernel

theorem test_fdiv :
    outF (at100 0x182081D3 [] [(1, 0x3F800000), (2, 0x40400000)]) 3 = some (0x3EAAAAAB, 0x104) ∧
    outF (at100 0x182081D3 [] [(1, 0x3F800000), (2, 0x80000000)]) 3 = some (0xFF800000, 0x104) :=
  by decide +kernel

theorem test_fsqrt :
    outF (at100 0x580081D3 [] [(1, 0x40000000)]) 3 = some (0x3FB504F3, 0x104) ∧
    outF (at100 0x580081D3 [] [(1, 0x80000000)]) 3 = some (0x80000000, 0x104) :=
  by decide +kernel

theorem test_fmadd :
    outF (at100 0x18208243 [] [(1, 0x3F800800), (2, 0x3F800800), (3, 0xBF801000)]) 4 = some (0x33800000, 0x104) :=
  by decide +kernel

theorem test_fmsub :
    outF (at100 0x18208247 [] [(1, 0x40000000), (2, 0x40400000), (3, 0x40C00000)]) 4 = some (0, 0x104) ∧
    outF (at100 0x1820A247 [] [(1, 0x40000000), (2, 0x40400000), (3, 0x40C00000)]) 4 = some (0x80000000, 0x104) :=
  by decide +kernel

theorem test_fnmsub :
    outF (at100 0x1820824B [] [(1, 0x3F800000), (2, 0x40000000), (3, 0x40400000)]) 4 = some (0x3F800000, 0x104) :=
  by decide +kernel

theorem test_fnmadd :
    outF (at100 0x1820824F [] [(1, 0x3F800000), (2, 0x3F800000), (3, 0xBF800000)]) 4 = some (0, 0x104) ∧
    outF (at100 0x1820824F [] [(1, 0), (2, 0), (3, 0)]) 4 = some (0x80000000, 0x104) :=
  by decide +kernel

theorem test_fsgnj :
    outF (at100 0x202081D3 [] [(1, 0x3F800000), (2, 0x80000000)]) 3 = some (0xBF800000, 0x104) :=
  by decide +kernel

theorem test_fsgnjn :
    outF (at100 0x202091D3 [] [(1, 0x3F800000), (2, 0x3F800000)]) 3 = some (0xBF800000, 0x104) :=
  by decide +kernel

theorem test_fsgnjx :
    outF (at100 0x2020A1D3 [] [(1, 0xBF800000), (2, 0xC0000000)]) 3 = some (0x3F800000, 0x104) :=
  by decide +kernel

theorem test_fmin :
    outF (at100 0x282081D3 [] [(1, 0x7F800001), (2, 0x3F800000)]) 3 = some (0x3F800000, 0x104) ∧
    outF (at100 0x282081D3 [] [(1, 0x3F800000), (2, 0xC0000000)]) 3 = some (0xC0000000, 0x104) :=
  by decide +kernel

theorem test_fmax :
    outF (at100 0x282091D3 [] [(1, 0x3F800000), (2, 0x7FC00000)]) 3 = some (0x3F800000, 0x104) ∧
    outF (at100 0x282091D3 [] [(1, 0x3F800000), (2, 0x40000000)]) 3 = some (0x40000000, 0x104) :=
  by decide +kernel

/-- 2.5 with rm = 1 in the word, which is ignored. -/
theorem test_fcvtws :
    outX (at100 0xC00091D3 [] [(1, 0x40200000)]) 3 = some (2, 0x104) ∧
    outX (at100 0xC00081D3 [] [(1, 0x7F800000)]) 3 = some (0x7FFFFFFF, 0x104) :=
  by decide +kernel

theorem test_fcvtwus :
    outX (at100 0xC01081D3 [] [(1, 0x4F7FFFFF)]) 3 = some (0xFFFFFF00, 0x104) ∧
    outX (at100 0xC01081D3 [] [(1, 0xBF800000)]) 3 = some (0, 0x104) :=
  by decide +kernel

theorem test_fcvtsw :
    outF (at100 0xD00081D3 [(1, 0xFEFFFFFF)] []) 3 = some (0xCB800000, 0x104) ∧
    outF (at100 0xD00081D3 [(1, 0x80000000)] []) 3 = some (0xCF000000, 0x104) :=
  by decide +kernel

theorem test_fcvtswu : outF (at100 0xD01081D3 [(1, 0xFFFFFFFF)] []) 3 = some (0x4F800000, 0x104) := by decide +kernel

theorem test_fmvxw : outX (at100 0xE00081D3 [] [(1, 0x7F800001)]) 3 = some (0x7F800001, 0x104) := by decide +kernel

theorem test_fmvwx : outF (at100 0xF00081D3 [(1, 0x7F800001)] []) 3 = some (0x7F800001, 0x104) := by decide +kernel

theorem test_feq :
    outX (at100 0xA020A1D3 [] [(1, 0), (2, 0x80000000)]) 3 = some (1, 0x104) ∧
    outX (at100 0xA020A1D3 [] [(1, 0x7FC00000), (2, 0x7FC00000)]) 3 = some (0, 0x104) :=
  by decide +kernel

theorem test_flt :
    outX (at100 0xA02091D3 [] [(1, 0), (2, 0x80000000)]) 3 = some (0, 0x104) ∧
    outX (at100 0xA02091D3 [] [(1, 0xC0000000), (2, 0x3F800000)]) 3 = some (1, 0x104) :=
  by decide +kernel

theorem test_fle :
    outX (at100 0xA02081D3 [] [(1, 0), (2, 0x80000000)]) 3 = some (1, 0x104) ∧
    outX (at100 0xA02081D3 [] [(1, 0x40000000), (2, 0x3F800000)]) 3 = some (0, 0x104) :=
  by decide +kernel

theorem test_fclass :
    outX (at100 0xE00091D3 [] [(1, 0xBF800000)]) 3 = some (0x002, 0x104) ∧
    outX (at100 0xE00091D3 [] [(1, 0x7F800001)]) 3 = some (0x100, 0x104) :=
  by decide +kernel

/-! ## Table Z: bit manipulation -/

theorem test_andn :
    outX (at100 0x4020F1B3 [(1, 0xFF00FF00), (2, 0x0FF00FF0)] []) 3 = some (0xF000F000, 0x104) :=
  by decide +kernel

theorem test_orn :
    outX (at100 0x4020E1B3 [(1, 0), (2, 0xFFFF0000)] []) 3 = some (0x0000FFFF, 0x104) :=
  by decide +kernel

theorem test_xnor :
    outX (at100 0x4020C1B3 [(1, 0x12345678), (2, 0x12345678)] []) 3 = some (0xFFFFFFFF, 0x104) :=
  by decide +kernel

theorem test_min :
    outX (at100 0x0A20C1B3 [(1, 0x80000000), (2, 1)] []) 3 = some (0x80000000, 0x104) :=
  by decide +kernel

theorem test_max : outX (at100 0x0A20E1B3 [(1, 0x80000000), (2, 1)] []) 3 = some (1, 0x104) := by decide +kernel

theorem test_minu : outX (at100 0x0A20D1B3 [(1, 0x80000000), (2, 1)] []) 3 = some (1, 0x104) := by decide +kernel

theorem test_maxu :
    outX (at100 0x0A20F1B3 [(1, 0x80000000), (2, 1)] []) 3 = some (0x80000000, 0x104) :=
  by decide +kernel

theorem test_rol :
    outX (at100 0x602091B3 [(1, 0x80000001), (2, 1)] []) 3 = some (3, 0x104) ∧
    outX (at100 0x602091B3 [(1, 0x12345678), (2, 36)] []) 3 = some (0x23456781, 0x104) :=
  by decide +kernel

theorem test_ror :
    outX (at100 0x6020D1B3 [(1, 0x80000001), (2, 1)] []) 3 = some (0xC0000000, 0x104) ∧
    outX (at100 0x6020D1B3 [(1, 0x12345678), (2, 0)] []) 3 = some (0x12345678, 0x104) :=
  by decide +kernel

theorem test_rori :
    outX (at100 0x6100D193 [(1, 0x12345678)] []) 3 = some (0x56781234, 0x104) ∧
    outX (at100 0x6000D193 [(1, 0x12345678)] []) 3 = some (0x12345678, 0x104) :=
  by decide +kernel

theorem test_zexth : outX (at100 0x0800C1B3 [(1, 0xFFFF8765)] []) 3 = some (0x8765, 0x104) := by decide +kernel

theorem test_clz :
    outX (at100 0x60009193 [(1, 1)] []) 3 = some (0x1F, 0x104) ∧
    outX (at100 0x60009193 [(1, 0)] []) 3 = some (0x20, 0x104) :=
  by decide +kernel

theorem test_ctz :
    outX (at100 0x60109193 [(1, 0x80000000)] []) 3 = some (0x1F, 0x104) ∧
    outX (at100 0x60109193 [(1, 0)] []) 3 = some (0x20, 0x104) :=
  by decide +kernel

theorem test_cpop :
    outX (at100 0x60209193 [(1, 0x0F0F0F0F)] []) 3 = some (0x10, 0x104) ∧
    outX (at100 0x60209193 [(1, 0xFFFFFFFF)] []) 3 = some (0x20, 0x104) :=
  by decide +kernel

theorem test_sextb : outX (at100 0x60409193 [(1, 0x180)] []) 3 = some (0xFFFFFF80, 0x104) := by decide +kernel

theorem test_sexth : outX (at100 0x60509193 [(1, 0x17FFF)] []) 3 = some (0x7FFF, 0x104) := by decide +kernel

theorem test_orcb : outX (at100 0x2870D193 [(1, 0x01000200)] []) 3 = some (0xFF00FF00, 0x104) := by decide +kernel

theorem test_rev8 : outX (at100 0x6980D193 [(1, 0x11223344)] []) 3 = some (0x44332211, 0x104) := by decide +kernel

/-! ## Table E: system and stop outcomes -/

theorem test_fence : outPc (at100 0x0FF0000F [] []) = some 0x104 := by decide +kernel

theorem test_ebreak : outStop (at100 0x00100073 [] []) = some (.breakpoint, 0x100) := by decide +kernel

theorem test_ecall_unwritten :
    outStop (at100 0x00000073 [] []) = some (.unwrittenRegister .X 17, 0x100) :=
  by decide +kernel

theorem test_ecall_unsupported :
    outStop (at100 0x00000073 [(17, 57)] []) = some (.unsupportedEcall 57 none, 0x100) :=
  by decide +kernel

theorem test_ecall_write_fd :
    outStop (at100 0x00000073 [(17, 64), (10, 2), (11, 0), (12, 0)] []) = some (.unsupportedEcall 64 (some 2), 0x100) :=
  by decide +kernel

theorem test_ecall_write_range :
    outStop (at100 0x00000073 [(17, 64), (10, 1), (11, 0x1FFE), (12, 4)] []) = some (.ecallOutOfRange 0x1FFE 4, 0x100) :=
  by decide +kernel

/-- After one step: the host log and the pc of a state still Running. -/
def outLog (s : State) : Option (List HostEvent × Word) :=
  match step s with
  | .next t => if t.run = .running then some (t.hostLog, t.pc) else none
  | .fault _ => none
  | .refused _ => none

theorem test_ecall_write_empty :
    outLog (at100 0x00000073 [(17, 64), (10, 1), (11, 0x5000), (12, 0)] []) = some ([.write 1 []], 0x104) :=
  by decide +kernel

/-- 43_system.md R243. -/
theorem test_ecall_write :
    outLog (withData (at100 0x00000073 [(17, 64), (10, 1), (11, 0x201), (12, 3)] [])) =
    some ([.write 1 [0xFF, 0x34, 0x12]], 0x104) :=
  by decide +kernel

/-- After one step: the exit code and the pc of a state that has halted. -/
def outExit (s : State) : Option (Int × Word) :=
  match step s with
  | .next t => t.run.exitCode.map fun c => (c, t.pc)
  | .fault _ => none
  | .refused _ => none

theorem test_ecall_exit :
    outExit (at100 0x00000073 [(17, 93), (10, 0xFFFFFFFF)] []) = some (-1, 0x100) :=
  by decide +kernel

theorem test_fetch_out_of_range : outStop (base.jump 0x2000) = some (.fetchOutOfRange, 0x2000) := by decide +kernel

theorem test_fetch_misaligned_first :
    outStop (base.jump 0x1FFE) = some (.fetchMisaligned, 0x1FFE) :=
  by decide +kernel

theorem test_unknown_opcode : outStop base = some (.unknownOpcode, 0x100) := by decide +kernel

theorem test_no_step_after_a_stop : step (base.halt 0) = .fault .notRunning := rfl

/-- `addi x1, x0, 5` as the first instruction after reset. -/
theorem test_withFetchWord : (outX (State.reset.withFetchWord 32 0x00500093) 1) = some (5, 4) := by decide +kernel

/-! ## Witnesses: the hypotheses of every obligation, met -/

/-- x1 = 5, x2 = 7, x31 = 9; every other integer register `Unwritten`. -/
def sX : State := withX base [(1, 5), (2, 7), (31, 9)]

/-- f0 = 1.0, f1 = 2.0, f31 = 3.0; every other float register `Unwritten`. -/
def sF : State := withF base [(0, 0x3F800000), (1, 0x40000000), (31, 0x40400000)]

/-- The registers of an environment call. -/
def sE (n fd buf len : Word) : State := withX base [(17, n), (10, fd), (11, buf), (12, len)]

theorem witness_FormatRoundTrip :
    immFits12 (-2048) ∧
    immFits12 2047 ∧
    immFits13 (-4096) ∧
    immFits13 4094 ∧
    immFitsU 0xFFFFF000 ∧
    immFits21 (-1048576) ∧
    immFits21 1048574 :=
  by
  and_intros <;> decide +kernel

theorem witness_DecodeOfEncode :
    (Instr.addi 31 31 (-2048)).wf = true ∧
    (Instr.beq 31 31 4094).wf = true ∧
    (Instr.jal 31 (-1048576)).wf = true ∧
    (Instr.lui 31 0xFFFFF000).wf = true ∧
    (Instr.fmaddS 31 31 31 31 7 3).wf = true :=
  by
  and_intros <;> decide +kernel

theorem witness_EncodeOfDecode :
    decode 0x00500093 = .ok (.addi 1 0 5) ∧
    decode 0xFFF0707F = .error .unknownOpcode :=
  by
  and_intros <;> decide +kernel

theorem witness_OpcodeMapRows :
    (0x00508093 : Word) &&& (Instr.addi 0 0 0).row.2 = (Instr.addi 0 0 0).row.1 :=
  by
  decide +kernel

theorem witness_IllegalWordsStop :
    (base.run = .running ∧ Fetches base 0 ∧ (0#32).extractLsb' 0 7 ∉ opcodes) ∧
    (base.placeWord 0x00003003).run = .running ∧ Fetches (base.placeWord 0x00003003) 0x00003003 ∧
    (0x00003003#32).extractLsb' 0 7 ∈ opcodes ∧ (∀ i : Instr, 0x00003003#32 &&& i.row.2 ≠ i.row.1) ∧
    (0x00002063#32).extractLsb' 0 7 = 0x63#7 ∧ wF3 0x00002063 = 0b010#3 ∧ (0x00#7).extractLsb' 0 2 ≠ 0b11#2 :=
  by
  unfold Fetches
  refine ⟨by decide +kernel, by decide +kernel, by decide +kernel, by decide +kernel, ?_, by decide +kernel⟩
  intro i
  cases i <;> simp [Instr.row]

theorem witness_AliasesExecute :
    (0x00001073#32).extractLsb' 0 7 = 0x73#7 ∧ (0x00001073#32).extractLsb' 20 12 = 0#12 ∧
    (0x00101073#32).extractLsb' 20 12 = 1#12 ∧
    (0x0000100F#32).extractLsb' 0 7 = 0x0F#7 ∧
    (0x00001067#32).extractLsb' 0 7 = 0x67#7 ∧
    (0x02000043#32).extractLsb' 0 7 = 0x43#7 ∧ (0x02000047#32).extractLsb' 0 7 = 0x47#7 ∧
    (0x0200004B#32).extractLsb' 0 7 = 0x4B#7 ∧ (0x0200004F#32).extractLsb' 0 7 = 0x4F#7 ∧
    (0x00007053#32).extractLsb' 0 7 = 0x53#7 ∧ (0x00007053#32).extractLsb' 25 7 = 0#7 ∧
    (0xE0101053#32).extractLsb' 25 7 = 0b1110000#7 ∧ wF3 0xE0101053 = 1#3 ∧
    (0xC0105053#32).extractLsb' 25 7 = 0b1100000#7 ∧ wRs2 0xC0105053 = 1#5 ∧
    (0x08104033#32).extractLsb' 25 7 = 0b0000100#7 ∧ wF3 0x08104033 = 4#3 ∧
    (0x28805013#32).extractLsb' 25 7 = 0b0010100#7 ∧ (0x68705013#32).extractLsb' 25 7 = 0b0110100#7 :=
  by
  and_intros <;> decide +kernel

theorem witness_IntegerRegisterAccess :
    sX.x[(3#5).toNat] = .unwritten ∧
    sX.x[(31#5).toNat] = .val 9 ∧
    (31#5 : RegIdx) ≠ 0#5 ∧
    (31#5 : RegIdx) ≠ 30#5 :=
  by
  and_intros <;> decide +kernel

theorem witness_FloatRegisterAccess :
    sF.f[(2#5).toNat] = .unwritten ∧
    sF.f[(0#5).toNat] = .val 0x3F800000 ∧
    (31#5 : RegIdx) ≠ 0#5 :=
  by
  and_intros <;> decide +kernel

theorem witness_StepKeepsInvariant :
    base.Inv ∧ ∃ t, step base = .next t :=
  ⟨⟨by decide +kernel, fun _ _ => rfl, by decide +kernel, by decide +kernel⟩, _, rfl⟩

theorem witness_StepKeepsRegistersWritten :
    ({ base with x := zeroFile, f := zeroFile } : State).AllWritten ∧
    ∃ t, step { base with x := zeroFile, f := zeroFile } = .next t :=
  ⟨by unfold State.AllWritten; decide +kernel, _, rfl⟩

theorem witness_StepRunsDecodedInstruction :
    Runs (at100 0x00500093 [] []) (.addi 1 0 5) :=
  by
  unfold Runs Fetches
  exact ⟨by decide +kernel, 0x00500093, by decide +kernel, by decide +kernel⟩

theorem witness_FetchChecks :
    base.run = .running ∧
    (base.jump 0x1FFE).pc.extractLsb' 0 2 ≠ 0b00#2 ∧
    (base.jump 0x2000).pc.extractLsb' 0 2 = 0b00#2 ∧ base.params.memSize < (base.jump 0x2000).pc.toNat + 4 ∧
    (base.jump 0x1FFC).pc.extractLsb' 0 2 = 0b00#2 ∧ (base.jump 0x1FFC).pc.toNat + 4 ≤ base.params.memSize :=
  by
  and_intros <;> decide +kernel

theorem witness_StepEnabledIffRunning :
    base.run = .running ∧
    (base.halt 0).run ≠ .running :=
  by
  and_intros <;> decide +kernel

theorem witness_StepOutcomes :
    base.run = .running ∧
    (sE 93 42 0 0).run = .running :=
  by
  and_intros <;> decide +kernel

theorem witness_FaultIsAllOrNothing :
    (∃ t r, step base = .next t ∧ t.run = .faulted r) ∧ Fetches base 0 ∧
    (∃ t r, step (base.jump 2) = .next t ∧ t.run = .faulted r) ∧ ∀ w, ¬ Fetches (base.jump 2) w :=
  by
  refine ⟨⟨_, _, rfl, rfl⟩, by unfold Fetches; decide +kernel, ⟨_, _, rfl, rfl⟩, fun w h => ?_⟩
  exact absurd h.1 (by decide +kernel)

theorem witness_OnlyEcallLogs :
    ∃ t, step (at100 0x00000073 [(17, 64), (10, 1), (11, 0), (12, 0)] []) = .next t ∧ t.hostLog ≠ [] :=
  ⟨_, rfl, by decide +kernel⟩

theorem witness_IntegerRegisterFrame :
    (∃ t, exec (.add 3 1 2) sX = .next t) ∧ (Instr.add 3 1 2).destX ≠ some 4 ∧ (Instr.sw 1 2 0).destX ≠ some 1 :=
  ⟨⟨_, rfl⟩, by decide +kernel⟩

theorem witness_FloatRegisterFrame :
    (∃ t, exec (.fsgnjS 3 0 1) sF = .next t) ∧ (Instr.fsgnjS 3 0 1).destF ≠ some 0 :=
  ⟨⟨_, rfl⟩, by decide +kernel⟩

theorem witness_MemoryFrame :
    sX.mem.wf = true ∧ (∃ t, exec (.sw 1 2 (-1)) sX = .next t) ∧ (Instr.sw 1 2 (-1)).storeForm = some (1, -1, 4) ∧
    HasX sX 1 5 ∧ ((3 : Nat) < (5 + (-1) : Word).toNat ∨ (5 + (-1) : Word).toNat + 4 ≤ 3) ∧
    (∃ t, exec (.ecall 0 0 0) (sE 63 0 0x100 4) = .next t) ∧ HasX (sE 63 0 0x100 4) a7 63 ∧
    HasX (sE 63 0 0x100 4) a1 0x100 ∧ HasX (sE 63 0 0x100 4) a2 4 :=
  by
  unfold HasX
  exact ⟨by decide +kernel, ⟨_, rfl⟩, by decide +kernel, by decide +kernel, by decide +kernel, ⟨_, rfl⟩, by decide +kernel⟩

theorem witness_HostStateFrame :
    (∃ t, exec (.add 3 1 2) sX = .next t) ∧ (Instr.add 3 1 2).isEcall = false :=
  ⟨⟨_, rfl⟩, rfl⟩

theorem witness_NextPc :
    (sX.run = .running ∧ (Instr.add 3 1 2).isControlTransfer = false ∧ ∃ t, exec (.add 3 1 2) sX = .next t ∧ t.run = .running) ∧
    ∃ t, exec (.ebreak 0 0 0) sX = .next t ∧ t.run ≠ .running :=
  ⟨⟨rfl, rfl, _, rfl, by decide +kernel⟩, _, rfl, by decide +kernel⟩

theorem witness_MemoryAccess :
    (Memory.writeBytes [] 0x200 [0x80, 0xFF, 0x34, 0x12]).wf = true ∧
    base.params.wf ∧
    2 ^ 32 < (0xFFFFFFFE : Word).toNat + 4 ∧
    2 ^ 32 < (0xFFFFFFFF : Word).toNat + 2 :=
  by
  and_intros <;> decide +kernel

/-- The state of the witness below: x1 = 0x104 = pc + 4, x2 = the word to store. -/
def sS : State := withX base [(1, 0x104), (2, 0x00500093)]

theorem witness_StoreSeenByNextFetch :
    sS.mem.wf = true ∧
    sS.pc.toNat % 4 = 0 ∧
    HasX sS 1 0x104 ∧
    HasX sS 2 0x00500093 ∧
    (0x104 : Word) + 0 = sS.pc + 4 ∧
    (sS.pc + 4).toNat + 4 ≤ sS.params.memSize :=
  by
  unfold HasX
  and_intros <;> decide +kernel

theorem witness_RegisterRegister :
    HasX sX 1 5 ∧
    HasX sX 31 9 ∧
    HasX sX 0 0 ∧
    LacksX sX 3 ∧
    LacksX sX 30 :=
  by
  unfold HasX LacksX
  and_intros <;> decide +kernel

theorem witness_RegisterImmediate :
    HasX sX 1 5 ∧
    HasX sX 31 9 ∧
    HasX sX 0 0 ∧
    LacksX sX 3 ∧
    LacksX sX 30 :=
  by
  unfold HasX LacksX
  and_intros <;> decide +kernel

theorem witness_ConditionalBranches :
    HasX sX 1 5 ∧
    HasX sX 31 9 ∧
    HasX sX 0 0 ∧
    LacksX sX 3 ∧
    LacksX sX 30 ∧
    (5 : Word).toInt < (7 : Word).toInt ∧
    ¬ (9 : Word).toInt < (5 : Word).toInt ∧
    (0x80000000 : Word).toInt < (0 : Word).toInt :=
  by
  unfold HasX LacksX
  and_intros <;> decide +kernel

theorem witness_Jumps :
    HasX sX 1 5 ∧ LacksX sX 3 ∧ (sX.jump 2).run = .running ∧ ((sX.jump 0x102).pc.toNat % 4 ≠ 0) ∧
    ∃ t, exec (.jal 1 2) sX = .next t ∧ t.run = .running ∧ t.pc.toNat % 4 ≠ 0 :=
  by
  unfold HasX LacksX
  exact ⟨by decide +kernel, by decide +kernel, by decide +kernel, by decide +kernel, _, rfl, by decide +kernel, by decide +kernel⟩

theorem witness_Loads :
    HasX sX 1 5 ∧
    LacksX sX 3 ∧
    ¬ AlignOk (strict sX) 5 4 ∧
    ¬ AlignOk (strict sX) 5 2 ∧
    AlignOk (strict sX) 5 1 ∧
    AlignOk sX 5 4 ∧
    sX.params.memSize < (0x1FFD : Word).toNat + 4 ∧
    (0x1FFC : Word).toNat + 4 ≤ sX.params.memSize :=
  by
  unfold HasX LacksX AlignOk
  and_intros <;> decide +kernel

theorem witness_Stores :
    HasX sX 1 5 ∧
    HasX sX 0 0 ∧
    LacksX sX 3 ∧
    ¬ AlignOk (strict sX) 6 4 ∧
    AlignOk (strict sX) 6 2 ∧
    AlignOk sX 5 4 ∧
    sX.params.memSize < (0x1FFF : Word).toNat + 2 ∧
    (0x1FFE : Word).toNat + 2 ≤ sX.params.memSize ∧
    sX.mem.wf = true :=
  by
  unfold HasX LacksX AlignOk
  and_intros <;> decide +kernel

theorem witness_EcallExit :
    HasX (sE 93 42 0 0) a7 93 ∧
    HasX (sE 93 42 0 0) a0 42 ∧
    LacksX (withX base [(17, 93)]) a0 :=
  by
  unfold HasX LacksX
  and_intros <;> decide +kernel

theorem witness_EcallWrite :
    HasX (sE 64 1 0x100 4) a7 64 ∧
    HasX (sE 64 1 0x100 4) a0 1 ∧
    HasX (sE 64 1 0x100 4) a1 0x100 ∧
    HasX (sE 64 1 0x100 4) a2 4 ∧
    BufferOk (sE 64 1 0x100 4) 0x100 4 ∧
    BufferOk (sE 64 1 0x1FFC 4) 0x1FFC 4 ∧
    BufferOk (sE 64 1 0x5000 0) 0x5000 0 ∧
    ¬ BufferOk (sE 64 1 0x1FFD 4) 0x1FFD 4 ∧
    LacksX (withX base [(17, 64)]) a0 ∧
    LacksX (withX base [(17, 64), (10, 1)]) a1 ∧
    LacksX (withX base [(17, 64), (10, 1), (11, 0)]) a2 ∧
    HasX (sE 64 2 0x100 4) a0 2 :=
  by
  unfold HasX LacksX BufferOk
  and_intros <;> decide +kernel

theorem witness_EcallRead :
    HasX (sE 63 0 0x100 4) a7 63 ∧
    HasX (sE 63 0 0x100 4) a0 0 ∧
    HasX (sE 63 0 0x100 4) a1 0x100 ∧
    HasX (sE 63 0 0x100 4) a2 4 ∧
    BufferOk (sE 63 0 0x100 4) 0x100 4 ∧
    BufferOk (sE 63 0 0x1FFC 4) 0x1FFC 4 ∧
    BufferOk (sE 63 0 0x5000 0) 0x5000 0 ∧
    ¬ BufferOk (sE 63 0 0x1FFD 4) 0x1FFD 4 ∧
    LacksX (withX base [(17, 63)]) a0 ∧
    LacksX (withX base [(17, 63), (10, 0)]) a1 ∧
    LacksX (withX base [(17, 63), (10, 0), (11, 0)]) a2 ∧
    HasX (sE 63 2 0x100 4) a0 2 ∧
    (sE 63 0 0x100 4).mem.wf = true :=
  by
  unfold HasX LacksX BufferOk
  and_intros <;> decide +kernel

theorem witness_EcallUnsupported :
    LacksX base a7 ∧
    HasX (sE 57 0 0 0) a7 57 ∧
    HasX (sE 0 0 0 0) a7 0 ∧
    HasX (sE 93 42 0 0) a7 93 ∧
    HasX (sE 93 42 0 0) a0 42 ∧
    LacksX (withX base [(17, 93)]) a0 ∧
    HasX (sE 64 1 0x100 4) a7 64 ∧
    HasX (sE 64 1 0x100 4) a0 1 ∧
    HasX (sE 64 1 0x100 4) a1 0x100 ∧
    HasX (sE 64 1 0x100 4) a2 4 ∧
    BufferOk (sE 64 1 0x100 4) 0x100 4 ∧
    HasX (sE 63 0 0x100 4) a7 63 ∧
    HasX (sE 63 0 0x100 4) a0 0 ∧
    HasX (sE 63 0 0x100 4) a1 0x100 ∧
    HasX (sE 63 0 0x100 4) a2 4 ∧
    BufferOk (sE 63 0 0x100 4) 0x100 4 :=
  by
  unfold HasX LacksX BufferOk
  and_intros <;> decide +kernel

theorem witness_MultiplyDivide :
    HasX sX 1 5 ∧
    HasX sX 31 9 ∧
    HasX sX 0 0 ∧
    LacksX sX 3 ∧
    LacksX sX 30 :=
  by
  unfold HasX LacksX
  and_intros <;> decide +kernel

theorem witness_MultiplyDivideLaws :
    (0xFFFFFFFF : Word) ≠ 0#32 ∧
    ¬ ((0x80000000 : Word) = 0x80000000#32 ∧ (1 : Word) = 0xFFFFFFFF#32) :=
  by
  and_intros <;> decide +kernel

theorem witness_RoundingModes :
    Reserved 5 ∧
    Reserved 6 ∧
    ModeOf 0 .rne ∧
    ModeOf 4 .rne ∧
    ModeOf 7 .rne ∧
    ModeOf 1 .rtz ∧
    ModeOf 2 .rdn ∧
    ModeOf 3 .rup ∧
    HasF sF 0 0x3F800000 ∧
    HasF sF 1 0x40000000 ∧
    HasF sF 31 0x40400000 ∧
    HasX sX 1 5 :=
  by
  unfold HasX HasF Reserved ModeOf
  and_intros <;> decide +kernel

theorem witness_FloatArithmetic :
    HasF sF 0 0x3F800000 ∧
    HasF sF 31 0x40400000 ∧
    LacksF sF 2 ∧
    LacksF sF 30 ∧
    ModeOf 0 .rne ∧
    ModeOf 3 .rup ∧
    Reserved 5 ∧
    Reserved 6 ∧
    ¬ Reserved 7 ∧
    ¬ Reserved 0 :=
  by
  unfold HasF LacksF Reserved ModeOf
  and_intros <;> decide +kernel

theorem witness_FusedMultiplyAdd :
    HasF sF 0 0x3F800000 ∧
    HasF sF 31 0x40400000 ∧
    LacksF sF 2 ∧
    LacksF sF 30 ∧
    ModeOf 0 .rne ∧
    ModeOf 3 .rup ∧
    Reserved 5 ∧
    Reserved 6 ∧
    ¬ Reserved 7 ∧
    ¬ Reserved 0 :=
  by
  unfold HasF LacksF Reserved ModeOf
  and_intros <;> decide +kernel

theorem witness_NanResults :
    SumIsNaN 0x7F800000 0xFF800000 ∧
    SumIsNaN 0x7F800000 (negated 0x7F800000) ∧
    IsZero 0x80000000 ∧ IsInf 0x7F800000 ∧
    IsZero 0 ∧ IsZero 0x80000000 ∧
    signOf 0xBF800000 = true ∧ ¬ IsZero 0xBF800000 ∧
    FusedIsNaN 0x7F800000 0 0x3F800000 ∧
    FusedIsNaN 0x7F800000 0x3F800000 (negated 0x7F800000) ∧
    FusedIsNaN (negated 0x7F800000) 0x3F800000 0x7F800000 ∧
    FusedIsNaN (negated 0x7FC00000) 0 (negated 0) ∧
    IsNaN 0x7F800001 :=
  by
  unfold SumIsNaN FusedIsNaN IsNaN IsInf IsZero
  and_intros <;> decide +kernel

theorem witness_ZerosAndInfinities :
    IsFinite 0x3F800000 ∧ IsFinite 0xBF800000 ∧ val 0x3F800000 + val 0xBF800000 = 0 ∧
    IsFinite 0x80000000 ∧ val 0x80000000 * val 0x3F800000 = 0 ∧
    IsFinite 0x7F7FFFFF ∧ ¬ IsZero 0x7F7FFFFF ∧
    IsFinite 1 ∧ ¬ IsZero 1 ∧
    IsInf 0x7F800000 ∧ IsInf 0xFF800000 ∧ signOf 0x7F800000 = false ∧
    IsZero 0 ∧ IsZero 0x80000000 :=
  by
  unfold IsInf IsFinite IsZero
  and_intros <;> decide +kernel

theorem witness_BitPatternMoves :
    HasF sF 0 0x3F800000 ∧
    HasF sF 31 0x40400000 ∧
    LacksF sF 2 ∧
    LacksF sF 30 ∧
    HasX sX 1 5 ∧
    LacksX sX 3 :=
  by
  unfold HasX LacksX HasF LacksF
  and_intros <;> decide +kernel

theorem witness_MinimumMaximum :
    HasF sF 0 0x3F800000 ∧
    HasF sF 31 0x40400000 ∧
    LacksF sF 2 ∧
    LacksF sF 30 ∧
    IsNaN 0x7F800001 ∧ IsNaN 0x7FC00000 ∧
    ¬ IsNaN 0x7F800000 ∧
    OppositeZeros 0 0x80000000 ∧ OppositeZeros 0x80000000 0 ∧
    ¬ OppositeZeros 0 0 ∧
    ext 0xFF800000 ≤ ext 0xFF7FFFFF ∧
    ¬ ext 0x3F800000 ≤ ext 0xC0000000 :=
  by
  unfold OppositeZeros HasF LacksF IsNaN IsZero
  and_intros <;> decide +kernel

theorem witness_FloatToInteger :
    HasF sF 0 0x3F800000 ∧
    LacksF sF 2 ∧
    IsNaN 0x7FC00000 ∧ params.fcvtNaNW = .upper ∧ params.fcvtNaNWU = .lower ∧
    IsInf 0xFF800000 ∧ signOf 0xFF800000 = true ∧
    IsInf 0x7F800000 ∧ signOf 0x7F800000 = false ∧
    IsFinite 0x40200000 :=
  by
  unfold HasF LacksF IsNaN IsInf IsFinite
  and_intros <;> decide +kernel

theorem witness_IntegerToFloat :
    HasX sX 1 5 ∧
    HasX sX 0 0 ∧
    LacksX sX 3 ∧
    (0x80000000 : Word).toInt ≠ 0 :=
  by
  unfold HasX LacksX
  and_intros <;> decide +kernel

theorem witness_CompareAndClassify :
    HasF sF 0 0x3F800000 ∧
    HasF sF 31 0x40400000 ∧
    LacksF sF 2 ∧
    LacksF sF 30 ∧
    ¬ IsNaN 0 ∧ ¬ IsNaN 0x80000000 ∧ ext 0 = ext 0x80000000 ∧
    ext 0xFF800000 < ext 0x80000001 ∧
    IsNaN 0x7FC00000 ∧
    signOf 0xBF800000 = true ∧ 1 ≤ expOf 0xBF800000 ∧ expOf 0x7F7FFFFF ≤ 254 ∧
    expOf 0x80000001 = 0 ∧ fracOf 0x80000001 ≠ 0 ∧
    expOf 0x7F800001 = 255 ∧ fracOf 0x7F800001 ≠ 0 ∧ (0x7F800001 : Word).getLsbD 22 = false ∧
    expOf 0x7FC00000 = 255 ∧ (0x7FC00000 : Word).getLsbD 22 = true :=
  by
  unfold HasF LacksF IsNaN
  and_intros <;> decide +kernel

theorem witness_FloatLaws :
    ¬ IsNaN 0x3F800000 ∧
    ¬ (IsNaN 0x7FC00000 ∧ IsNaN 0x3F800000) ∧
    |(0x01000000 : Word).toInt| ≤ 2 ^ 24 ∧
    |(0xFF000000 : Word).toInt| ≤ 2 ^ 24 ∧
    HasX sX 1 5 ∧
    HasX sX 0 0 :=
  by
  unfold HasX IsNaN
  and_intros <;> decide +kernel

theorem witness_BitManipulationTwoRegisters :
    HasX sX 1 5 ∧
    HasX sX 31 9 ∧
    HasX sX 0 0 ∧
    LacksX sX 3 ∧
    LacksX sX 30 :=
  by
  unfold HasX LacksX
  and_intros <;> decide +kernel

theorem witness_BitManipulationOneRegister :
    HasX sX 1 5 ∧
    LacksX sX 3 ∧
    (5 : Word).getLsbD 2 = true ∧
    (0x80000000 : Word).getLsbD 31 = true ∧
    (0x62005013#32).extractLsb' 0 7 = 0x13#7 ∧ wF3 0x62005013 = 5#3 ∧ (0x62005013#32).extractLsb' 25 7 = 0b0110001#7 :=
  by
  unfold HasX LacksX
  and_intros <;> decide +kernel

theorem witness_BitManipulationLaws :
    (1#5 : BitVec 5) ≠ 0#5 ∧
    (31#5 : BitVec 5) ≠ 0#5 ∧
    HasX sX 1 5 ∧
    HasX sX 2 7 :=
  by
  unfold HasX
  and_intros <;> decide +kernel

end Sys2Proof.Tests
end

section
/-! SUPPORT. The vocabulary of the statements against the laws of the model: registers, fetch, what a step answers, and
what an instruction does to `run`, the host log and the pc. Then the statements of 10_state.md. -/

namespace Sys2Proof.Claims

open Sys2Proof.Machine

variable {i : Instr} {s t : State}

/-! ## Registers -/

theorem xCell_of_ne_zero {r : RegIdx} (hr : r ≠ 0#5) : s.xCell r = s.x[r.toNat] := if_neg hr

theorem hasX_iff_readX {r : RegIdx} {v : Word} : HasX s r v ↔ s.readX r = .ok v := by
  rw [State.readX_eq_ok]
  by_cases hr : r = 0#5
  · subst hr; simp [HasX, @eq_comm _ v]
  · simp [HasX, hr, xCell_of_ne_zero hr]

theorem lacksX_iff_readX {r : RegIdx} : LacksX s r ↔ s.readX r = .error (.unwrittenRegister .X r) := by
  rw [State.readX_eq_error]
  by_cases hr : r = 0#5
  · subst hr; simp [LacksX]
  · simp [LacksX, hr, xCell_of_ne_zero hr]

theorem hasF_iff_readF {r : RegIdx} {v : Word} : HasF s r v ↔ s.readF r = .ok v := by
  rw [State.readF_eq_ok]; rfl

theorem lacksF_iff_readF {r : RegIdx} : LacksF s r ↔ s.readF r = .error (.unwrittenRegister .F r) := by
  simp [State.readF_eq_error, LacksF, State.fCell]

theorem getElem_set_of_ne {c : RegCell} {file : Vector RegCell 32} {q r : RegIdx} (h : q ≠ r) :
    (file.set r.toNat c)[q.toNat] = file[q.toNat] :=
  Vector.getElem_set_ne _ _ fun e => h (BitVec.eq_of_toNat_eq e.symm)

/-! ## Fetch -/

/-- R61: the lowest address holds the least significant byte. -/
theorem wordOfBytes_eq_append (b0 b1 b2 b3 : Byte) : wordOfBytes b0 b1 b2 b3 = b3 ++ b2 ++ b1 ++ b0 := by
  apply BitVec.eq_of_getLsbD_eq
  intro k hk
  simp only [wordOfBytes, BitVec.getLsbD_or, getLsbD_place, BitVec.getLsbD_append]
  interval_cases k <;> simp

theorem read32_eq_wordAt (m : Memory) (a : Nat) : m.read32 a = wordAt m a := wordOfBytes_eq_append _ _ _ _

theorem low_two_bits_eq_zero_iff {w : Word} : w.extractLsb' 0 2 = 0b00#2 ↔ w.toNat % 4 = 0 := by
  simp [← BitVec.toNat_inj]

theorem fetch_misaligned (h : s.pc.toNat % 4 ≠ 0) : s.fetch = .error .fetchMisaligned := if_pos h

theorem fetch_outOfRange (h : s.pc.toNat % 4 = 0) (hr : ¬ s.InRange s.pc 4) : s.fetch = .error .fetchOutOfRange := by
  simp [State.fetch, h, hr]

theorem fetch_ok (h : s.pc.toNat % 4 = 0) (hr : s.InRange s.pc 4) : s.fetch = .ok (wordAt s.mem s.pc.toNat) := by
  simp [State.fetch, h, hr, read32_eq_wordAt]

theorem fetches_iff_fetch {w : Word} : Fetches s w ↔ s.fetch = .ok w := by
  by_cases h : s.pc.toNat % 4 = 0
  · by_cases hr : s.InRange s.pc 4
    · simp [Fetches, fetch_ok, h, hr, eq_comm]
    · simp [Fetches, fetch_outOfRange, h, hr]
  · simp [Fetches, fetch_misaligned, h]

/-! ## What a step answers -/

theorem step_of_fetch_error {e : StopReason} (hr : s.run = .running) (h : s.fetch = .error e) :
    step s = .next (s.raise e none) := by
  simp [step, hr, h]

theorem step_of_decode_error {w : Word} {e : DecodeError} (hr : s.run = .running) (hw : s.fetch = .ok w)
    (h : decode w = .error e) : step s = .next (s.raise (lookupReason e) (some w)) := by
  simp [step, hr, hw, h]

theorem step_of_runs (h : Runs s i) : step s = exec i s := by
  obtain ⟨hr, w, hw, hi⟩ := h
  simp [step, hr, fetches_iff_fetch.mp hw, hi]

/-- A running state's step answers a next state: a stop outcome of fetch, of lookup or of exec is one. -/
theorem step_answers (hr : s.run = .running) : ∃ t, step s = .next t := by
  cases hw : s.fetch with
  | error e => exact ⟨_, step_of_fetch_error hr hw⟩
  | ok w =>
    cases hi : decode w with
    | error e => exact ⟨_, step_of_decode_error hr hw hi⟩
    | ok i => rw [step_of_runs ⟨hr, w, fetches_iff_fetch.mpr hw, hi⟩]; exact exec_answers i s

/-- A step takes a stop outcome, or runs an instruction and does one of its effects. -/
theorem step_raises_or_runs (h : step s = .next t) :
    (∃ e w, t = s.raise e w) ∨ ∃ i, Runs s i ∧ Effect i s t := by
  have hr : s.run = .running := (step_cases h).1
  obtain hstop | ⟨w, i, hw, hi, he⟩ := step_effect h
  · exact .inl hstop
  · exact .inr ⟨i, ⟨hr, w, fetches_iff_fetch.mpr hw, hi⟩, he⟩

/-! ## What an instruction does to `run`, the host log and the pc -/

theorem isEcall_iff : i.isEcall = true ↔ ∃ rd f3 rs1, i = .ecall rd f3 rs1 := by
  constructor
  · intro h
    cases i with
    | ecall rd f3 rs1 => exact ⟨rd, f3, rs1, rfl⟩
    | _ => cases h
  · rintro ⟨rd, f3, rs1, rfl⟩; rfl

@[simp] theorem hostWrite_run (bytes : List Byte) : (s.hostWrite bytes).run = s.run := by simp [State.hostWrite]
@[simp] theorem hostWrite_pc (bytes : List Byte) : (s.hostWrite bytes).pc = s.pc + 4 := by simp [State.hostWrite]
@[simp] theorem hostWrite_hostLog (bytes : List Byte) :
    (s.hostWrite bytes).hostLog = s.hostLog ++ [.write 1 bytes] := by simp [State.hostWrite]

@[simp] theorem hostRead_run (buf : Word) (n : Nat) : (s.hostRead buf n).run = s.run := by simp [State.hostRead]
@[simp] theorem hostRead_pc (buf : Word) (n : Nat) : (s.hostRead buf n).pc = s.pc + 4 := by simp [State.hostRead]
@[simp] theorem hostRead_hostLog (buf : Word) (n : Nat) :
    (s.hostRead buf n).hostLog = s.hostLog ++ [.read 0 n (hostBytes s.hostDraws n)] := by simp [State.hostRead]

/-- An instruction leaves `run` alone, or takes a stop outcome, or is the exit call. -/
theorem effect_run (h : Effect i s t) :
    t.run = s.run ∨ (∃ r, t.run = .faulted r) ∨
      ∃ code, t.run = .halted code ∧ i.isEcall = true ∧ HasX s a7 93 ∧ HasX s a0 code := by
  cases h with
  | stop e => exact .inr (.inl ⟨_, rfl⟩)
  | exit code hi h7 h0 => exact .inr (.inr ⟨code, rfl, hi, hasX_iff_readX.mpr h7, hasX_iff_readX.mpr h0⟩)
  | _ => left; simp

/-- An instruction leaves the host log alone, or is the write or the read call and appends that call's event. -/
theorem effect_hostLog (h : Effect i s t) :
    t.hostLog = s.hostLog ∨ (i.isEcall = true ∧
      ((HasX s a7 64 ∧ ∃ fd bytes, t.hostLog = s.hostLog ++ [.write fd bytes]) ∨
       (HasX s a7 63 ∧ ∃ fd n bytes, t.hostLog = s.hostLog ++ [.read fd n bytes]))) := by
  cases h with
  | hostWrite buf len hi h7 => exact .inr ⟨hi, .inl ⟨hasX_iff_readX.mpr h7, _, _, hostWrite_hostLog _⟩⟩
  | hostRead buf len hi h7 => exact .inr ⟨hi, .inr ⟨hasX_iff_readX.mpr h7, _, _, _, hostRead_hostLog _ _⟩⟩
  | _ => left; simp

/-- From a running state, an instruction ends the run and keeps the pc, or goes on, to pc + 4 unless it transfers
control. -/
theorem effect_pc (hr : s.run = .running) (h : Effect i s t) :
    (t.run ≠ .running ∧ t.pc = s.pc) ∨
      (t.run = .running ∧ (i.isControlTransfer = false → t.pc = s.pc + 4)) := by
  cases h with
  | stop e => left; simp
  | exit code => left; simp
  | link rd target hd hc => right; simp [hr, hc]
  | branch target hc => right; simp [hr, hc]
  | _ => right; simp [hr]

/-! ## The statements -/

/-- Settles O19: a stop outcome of fetch or lookup is Faulted; an instruction's effect on `run` is `effect_run`. -/
theorem stepOutcomes : Obligations.StepOutcomes := by
  intro s hr
  obtain ⟨t, ht⟩ := step_answers hr
  refine ⟨t, ht, ?_⟩
  obtain ⟨e, w, rfl⟩ | ⟨i, hruns, he⟩ := step_raises_or_runs ht
  · exact .inr (.inr ⟨_, rfl⟩)
  obtain h | h | ⟨code, h, hi, h7, h0⟩ := effect_run he
  · exact .inl (h.trans hr)
  · exact .inr (.inr h)
  · obtain ⟨rd, f3, rs1, rfl⟩ := isEcall_iff.mp hi
    exact .inr (.inl ⟨code, rd, f3, rs1, h, hruns, h7, h0⟩)

/-- Settles O21: a stop outcome keeps the log; an instruction's effect on it is `effect_hostLog`. -/
theorem onlyEcallLogs : Obligations.OnlyEcallLogs := by
  refine ⟨fun _ => rfl, fun s t ht => ?_⟩
  obtain ⟨e, w, rfl⟩ | ⟨i, hruns, he⟩ := step_raises_or_runs ht
  · exact .inl rfl
  obtain h | ⟨hi, hlog⟩ := effect_hostLog he
  · exact .inl h
  · obtain ⟨rd, f3, rs1, rfl⟩ := isEcall_iff.mp hi
    exact .inr ⟨rd, f3, rs1, hruns, hlog⟩

/-- Settles O26: the step is exec's result (`step_of_runs`), and the pc of exec's result is `effect_pc`. -/
theorem nextPc : Obligations.NextPc := by
  refine ⟨fun _ _ => step_of_runs, fun i s t hr ht => ?_⟩
  obtain ⟨hrun, hpc⟩ | ⟨hrun, hpc⟩ := effect_pc hr (exec_effect ht)
  · exact ⟨fun h => absurd h hrun, fun _ => hpc⟩
  · exact ⟨fun _ => hpc, fun h => absurd hrun h⟩

/-- Settles O9: reads are the read laws in the statements' vocabulary; a write sets one cell of the file. -/
theorem integerRegisterAccess : Obligations.IntegerRegisterAccess := by
  intro s r v
  refine ⟨s.readX_zero, fun hr h => lacksX_iff_readX.mp ⟨hr, h⟩, fun u hr h => hasX_iff_readX.mp (.inr ⟨hr, h⟩), rfl,
    fun hr => ?_⟩
  exact ⟨if_neg hr, by simp [hr], fun q hq => by simp [hr, getElem_set_of_ne hq]⟩

/-- Settles O10: as O9, with no case for index 0. -/
theorem floatRegisterAccess : Obligations.FloatRegisterAccess :=
  fun s _ _ => ⟨lacksF_iff_readF.mp, fun _ => hasF_iff_readF.mp, rfl, by simp,
    fun _ hq => by simp [getElem_set_of_ne hq]⟩

/-- Settles O11: every component is the launch's own, except that cell 0 of the integer file is set to 0. -/
theorem launchState : Obligations.LaunchState := by
  refine ⟨fun l r => ⟨State.readX_zero _, fun hr => ?_, rfl, rfl, rfl, rfl, rfl, rfl, rfl⟩, fun r => ?_⟩
  · exact getElem_set_of_ne (r := 0#5) hr
  · simp [unwrittenFile]

/-- Settles O17: the three answers of fetch, none of which reads the data policy. -/
theorem fetchChecks : Obligations.FetchChecks := by
  intro s hr
  simp only [low_two_bits_eq_zero_iff, ne_eq]
  exact ⟨fun h => step_of_fetch_error hr (fetch_misaligned h),
    fun h hlt => step_of_fetch_error hr (fetch_outOfRange h (Nat.not_le.mpr hlt)),
    fun h hle => fetch_ok h hle, fun _ => rfl⟩

end Sys2Proof.Claims
end

section
/-! SUPPORT. The five immediates: placed fields against the concatenation of their bits, sign extension by two shifts
against that of bit vectors, and the range of each. Then the statement on immediates of 30_encoding.md. -/

namespace Sys2Proof.Claims

/-! ## Fields side by side -/

theorem place_append {n m : Nat} (hi : BitVec n) (lo : BitVec m) (k : Nat) :
    place (hi ++ lo) k = place hi (m + k) ||| place lo k := by
  rw [place, BitVec.setWidth_append_eq_shiftLeft_setWidth_or, BitVec.shiftLeft_or_distrib, ← BitVec.shiftLeft_add]
  rfl

theorem place_low {n : Nat} (v : BitVec n) : place v 0 = v.setWidth 32 := by simp [place]

/-! ## Sign extension (R14, R105) -/

/-- R14's two shifts sign-extend a field of `n` bits: bit `i` of the result is bit `i` of the field, or past it the
field's sign bit, which the left shift has moved to bit 31. -/
theorem sext_place {n : Nat} (hpos : 0 < n) (hn : n ≤ 32) (v : BitVec n) : sext n (place v 0) = v.signExtend 32 := by
  have hmsb : (v.setWidth 32 <<< (32 - n)).msb = v.msb := by
    simp [BitVec.msb_eq_getLsbD_last, show 31 - (32 - n) = n - 1 by omega, show 32 ≤ 31 + n by omega]
  apply BitVec.eq_of_getLsbD_eq
  intro i hi
  rw [place_low, sext, BitVec.getLsbD_sshiftRight, hmsb, BitVec.getLsbD_signExtend]
  by_cases hin : i < n
  · simp [hi, hin, show ¬ 32 ≤ i by omega, show 32 - n + i < 32 by omega]
  · simp [hi, hin, show ¬ 32 ≤ i by omega, show ¬ 32 - n + i < 32 by omega]

theorem signExtend_range {n : Nat} (hn : n ≤ 32) (v : BitVec n) :
    -2 ^ (n - 1) ≤ (v.signExtend 32).toInt ∧ (v.signExtend 32).toInt ≤ 2 ^ (n - 1) - 1 := by
  rw [BitVec.toInt_signExtend_of_le hn]
  exact ⟨v.le_toInt, Int.le_sub_one_of_lt v.toInt_lt⟩

/-- A sign-extended field whose bit 0 is fixed at zero is twice the field of its other bits. -/
theorem toInt_signExtend_append_zero {n : Nat} (hn : n + 1 ≤ 32) (v : BitVec n) :
    ((v ++ 0#1).signExtend 32).toInt = 2 * v.toInt := by
  rw [BitVec.toInt_signExtend_of_le hn, BitVec.toInt_append_zero]
  ring

/-- Such a value is even, so its range ends two below the power of two (R102, R104). -/
theorem signExtend_append_zero_range {n : Nat} (hpos : 0 < n) (hn : n + 1 ≤ 32) (v : BitVec n) :
    -2 ^ n ≤ ((v ++ 0#1).signExtend 32).toInt ∧ ((v ++ 0#1).signExtend 32).toInt ≤ 2 ^ n - 2 ∧
      ((v ++ 0#1).signExtend 32).toInt % 2 = 0 := by
  have hlo := v.le_toInt
  have hhi := v.toInt_lt
  have hpow : (2 : Int) ^ n = 2 * 2 ^ (n - 1) := by rw [← pow_succ', Nat.sub_add_cancel hpos]
  rw [toInt_signExtend_append_zero hn, hpow]
  omega

/-! ## The five immediates (R100 to R104) -/

section
variable (w : Word)

theorem immI_eq_wImmI : immI w = wImmI w := sext_place (by decide) (by decide) _

theorem immS_eq_wImmS : immS w = wImmS w := by
  rw [wImmS, ← sext_place (by decide) (by decide), place_append, immS]

theorem immB_eq_wImmB : immB w = wImmB w := by
  rw [wImmB, ← sext_place (by decide) (by decide)]
  simp only [place_append, place_zero, BitVec.or_zero]
  rfl

theorem immJ_eq_wImmJ : immJ w = wImmJ w := by
  rw [wImmJ, ← sext_place (by decide) (by decide)]
  simp only [place_append, place_zero, BitVec.or_zero]
  rfl

theorem immU_eq_wImmU : immU w = wImmU w := by
  have h := place_append (w.extractLsb' 12 20) (0#12) 0
  rw [place_zero, BitVec.or_zero, place_low] at h
  exact h.symm

/-- R103: the U immediate is the word with its low 12 bits cleared. -/
theorem wImmU_eq_and : wImmU w = w &&& 0xFFFFF000 := by
  have hw : w = w.extractLsb' 12 20 ++ w.extractLsb' 0 12 := by
    rw [BitVec.extractLsb'_append_extractLsb'_eq_extractLsb' (start₁ := 0) (start₂ := 12) rfl,
      BitVec.extractLsb'_eq_self]
  calc wImmU w = (w.extractLsb' 12 20 ++ w.extractLsb' 0 12) &&& (BitVec.allOnes 20 ++ 0#12) := by
        rw [BitVec.and_append, BitVec.and_allOnes, BitVec.and_zero, wImmU]
    _ = w &&& 0xFFFFF000 := by rw [← hw]; rfl

end

/-- Settles O3: each placed immediate is the sign-extended concatenation, whose width bounds it; B and J are twice a
field one bit shorter. -/
theorem immediateValues : Obligations.ImmediateValues := by
  intro w
  rw [immI_eq_wImmI, immS_eq_wImmS, immB_eq_wImmB, immU_eq_wImmU, immJ_eq_wImmJ]
  refine ⟨⟨rfl, ?_⟩, ⟨rfl, ?_⟩, ⟨rfl, ?_⟩, ⟨rfl, wImmU_eq_and w⟩, ⟨rfl, ?_⟩⟩
  · exact signExtend_range (n := 12) (by decide) _
  · exact signExtend_range (n := 12) (by decide) _
  · exact signExtend_append_zero_range (n := 12) (by decide) (by decide) _
  · exact signExtend_append_zero_range (n := 20) (by decide) (by decide) _

end Sys2Proof.Claims
end

section
/-! SUPPORT. Words by their fields under a mask, and the registry's slots against the opcode map: an instruction that
the decoder answers has the word in its row (30_encoding.md R115, R135). -/

namespace Sys2Proof

open Sys2Proof.Claims

/-! ## The fields of a word -/

open BitVec in
/-- The six R fields tile the word (R91). -/
theorem encR_decodeR (w : Word) : encR (decodeR w) = w := by
  have tile : w.extractLsb' 25 7 ++ w.extractLsb' 20 5 ++ w.extractLsb' 15 5 ++ w.extractLsb' 12 3 ++
      w.extractLsb' 7 5 ++ w.extractLsb' 0 7 = w := by
    rw [extractLsb'_append_extractLsb'_eq_extractLsb' (start₁ := 20) (start₂ := 25) rfl,
      extractLsb'_append_extractLsb'_eq_extractLsb' (start₁ := 15) (start₂ := 20) rfl,
      extractLsb'_append_extractLsb'_eq_extractLsb' (start₁ := 12) (start₂ := 15) rfl,
      extractLsb'_append_extractLsb'_eq_extractLsb' (start₁ := 7) (start₂ := 12) rfl,
      extractLsb'_append_extractLsb'_eq_extractLsb' (start₁ := 0) (start₂ := 7) rfl]
    exact BitVec.extractLsb'_eq_self
  calc encR (decodeR w)
      = place (w.extractLsb' 25 7 ++ w.extractLsb' 20 5 ++ w.extractLsb' 15 5 ++ w.extractLsb' 12 3 ++
          w.extractLsb' 7 5 ++ w.extractLsb' 0 7) 0 := by simp only [place_append]; rfl
    _ = w := by rw [tile, place_low, BitVec.setWidth_eq]

/-- A masked word, field by field. -/
theorem and_eq_fields (w m : Word) :
    w &&& m = place (funct7Of w &&& funct7Of m) 25 ||| place (rs2Of w &&& rs2Of m) 20 |||
      place (rs1Of w &&& rs1Of m) 15 ||| place (funct3Of w &&& funct3Of m) 12 ||| place (rdOf w &&& rdOf m) 7 |||
      place (opcodeOf w &&& opcodeOf m) 0 := by
  conv_lhs => rw [← encR_decodeR w]
  simp only [encR, decodeR, BitVec.and_or_distrib_right, place_and]
  rfl

/-- A field that the mask keeps whole is the match value's. -/
theorem extractLsb'_of_and_eq {w mask mtch : Word} {lo n : Nat} (h : w &&& mask = mtch)
    (hmask : mask.extractLsb' lo n = BitVec.allOnes n) : w.extractLsb' lo n = mtch.extractLsb' lo n := by
  rw [← h, BitVec.extractLsb'_and, hmask, BitVec.and_allOnes]

/-- The low 12 bits of an I immediate are the word's bits from 20 on (R100). -/
theorem extractLsb'_immI (w : Word) {lo n : Nat} (h : lo + n ≤ 12) :
    (immI w).extractLsb' lo n = w.extractLsb' (20 + lo) n := by
  rw [immI_eq_wImmI]
  apply BitVec.eq_of_getLsbD_eq
  intro k hk
  simp only [wImmI, BitVec.getLsbD_extractLsb', BitVec.getLsbD_signExtend, hk, show lo + k < 32 by omega,
    show lo + k < 12 by omega, decide_true, Bool.true_and, if_true, Nat.add_assoc]

theorem immHi_immI (w : Word) : immHi (immI w) = funct7Of w := extractLsb'_immI w (by decide)

theorem immLo_immI (w : Word) : immLo (immI w) = rs2Of w := extractLsb'_immI w (by decide)

theorem and_127 (v : BitVec 7) : v &&& 127#7 = v := BitVec.and_allOnes
theorem and_31 (v : BitVec 5) : v &&& 31#5 = v := BitVec.and_allOnes
theorem and_7 (v : BitVec 3) : v &&& 7#3 = v := BitVec.and_allOnes

/-! ## Slots -/

theorem mem_of_slotAt {K V : Type} [DecidableEq K] {key : K} {v : V} :
    ∀ {table : List (K × V)}, slotAt table key = some v → (key, v) ∈ table
  | (k, u) :: rest, h => by
    rw [slotAt] at h
    split at h
    · next hk => cases h; exact hk ▸ .head _
    · exact .tail _ (mem_of_slotAt h)

/-- The primary opcode of a group (R117). -/
def Group.opcode : Group → BitVec 7
  | .load => 0x03#7
  | .miscMem => 0x0F#7
  | .opImm => 0x13#7
  | .auipc => 0x17#7
  | .store => 0x23#7
  | .op => 0x33#7
  | .lui => 0x37#7
  | .madd => 0x43#7
  | .msub => 0x47#7
  | .nmsub => 0x4B#7
  | .nmadd => 0x4F#7
  | .opFp => 0x53#7
  | .branch => 0x63#7
  | .jalr => 0x67#7
  | .jal => 0x6F#7
  | .system => 0x73#7

theorem groupOf_eq_some {op : BitVec 7} {g : Group} : groupOf op = some g ↔ op = g.opcode := by
  constructor
  · intro h
    have htable : ∀ p ∈ groupTable, p.1 = p.2.opcode := by decide
    exact htable _ (mem_of_slotAt h)
  · rintro rfl
    cases g <;> rfl

/-- Lookup's answer is that of the opcode's group (R115). -/
theorem decode_eq_ok {w : Word} {i : Instr} :
    decode w = .ok i ↔ ∃ g : Group, opcodeOf w = g.opcode ∧ g.lookup w = some i := by
  simp only [← groupOf_eq_some]
  unfold decode
  cases groupOf (opcodeOf w) with
  | none => simp
  | some g => cases hg : g.lookup w <;> simp [hg]

/-! ## Rows -/

/-- The word is in the instruction's row of the opcode map (R135). -/
def InRow (w : Word) (i : Instr) : Prop := w &&& i.row.2 = i.row.1

/-- The row of a slot keyed by funct3 (R120), from its opcode and key. -/
def f3Row (op : BitVec 7) (f3 : BitVec 3) : Word × Word := (place f3 12 ||| place op 0, 0x0000707F)

/-- The row of an OP slot, from its key (R118). -/
def opRow (key : BitVec 10) : Word × Word :=
  (place (key.extractLsb' 3 7) 25 ||| place (key.extractLsb' 0 3) 12 ||| place 0x33#7 0, 0xFE00707F)

/-- The row of an OP-IMM slot, from its key (R119). -/
def opImmRow : BitVec 3 × BitVec 7 × BitVec 5 → Word × Word
  | (f3, hi, lo) =>
    if f3 ≠ 0b001#3 ∧ f3 ≠ 0b101#3 then f3Row 0x13#7 f3
    else if f3 = 0b001#3 ∧ hi = 0b0110000#7 then
      (place hi 25 ||| place lo 20 ||| place f3 12 ||| place 0x13#7 0, 0xFFF0707F)
    else (place hi 25 ||| place f3 12 ||| place 0x13#7 0, 0xFE00707F)

/-- The row of an OP-FP slot, from its key (R123). -/
def fpRow : BitVec 7 × BitVec 3 × BitVec 5 → Word × Word
  | (f7, f3, rs2) =>
    (place f7 25 ||| place rs2 20 ||| place f3 12 ||| place 0x53#7 0,
      0xFE00007F ||| (if f7 ∈ rs2Set then 0x01F00000 else 0) ||| (if f7 ∈ rmSet then 0 else 0x00007000))

/-- The row of a SYSTEM slot, from its key (R122). -/
def systemRow (key : Int) : Word × Word := (place (BitVec.ofInt 12 key) 20 ||| place 0x73#7 0, 0xFFF0007F)

theorem loadSlots_row : ∀ p ∈ loadSlots, ∀ f, (p.2 f).row = f3Row 0x03#7 p.1 := by
  rw [← List.forall_iff_forall_mem]
  and_intros <;> exact fun _ => rfl

theorem opImmSlots_row : ∀ p ∈ opImmSlots, ∀ f, (p.2 f).row = opImmRow p.1 := by
  rw [← List.forall_iff_forall_mem]
  and_intros <;> exact fun _ => rfl

theorem storeSlots_row : ∀ p ∈ storeSlots, ∀ f, (p.2 f).row = f3Row 0x23#7 p.1 := by
  rw [← List.forall_iff_forall_mem]
  and_intros <;> exact fun _ => rfl

theorem opSlots_row : ∀ p ∈ opSlots, ∀ f, (p.2 f).row = opRow p.1 := by
  rw [← List.forall_iff_forall_mem]
  and_intros <;> exact fun _ => rfl

theorem opFpSlots_row : ∀ p ∈ opFpSlots, ∀ f, (p.2 f).row = fpRow p.1 := by
  rw [← List.forall_iff_forall_mem]
  and_intros <;> exact fun _ => rfl

theorem branchSlots_row : ∀ p ∈ branchSlots, ∀ f, (p.2 f).row = f3Row 0x63#7 p.1 := by
  rw [← List.forall_iff_forall_mem]
  and_intros <;> exact fun _ => rfl

theorem systemSlots_row : ∀ p ∈ systemSlots, ∀ f, (p.2 f).row = systemRow p.1 := by
  rw [← List.forall_iff_forall_mem]
  and_intros <;> exact fun _ => rfl

/-! ## A word under its row's mask -/

section
variable (w : Word)

theorem and_maskOpcode : w &&& 0x0000007F = place (opcodeOf w) 0 := by
  simp [and_eq_fields w, funct7Of, rs2Of, rs1Of, funct3Of, rdOf, opcodeOf, and_127]

theorem and_maskFunct3 : w &&& 0x0000707F = place (funct3Of w) 12 ||| place (opcodeOf w) 0 := by
  simp [and_eq_fields w, funct7Of, rs2Of, rs1Of, funct3Of, rdOf, opcodeOf, and_127, and_7]

theorem and_maskFunct7 : w &&& 0xFE00007F = place (funct7Of w) 25 ||| place (opcodeOf w) 0 := by
  simp [and_eq_fields w, funct7Of, rs2Of, rs1Of, funct3Of, rdOf, opcodeOf, and_127]

theorem and_maskFunct7Funct3 :
    w &&& 0xFE00707F = place (funct7Of w) 25 ||| place (funct3Of w) 12 ||| place (opcodeOf w) 0 := by
  simp [and_eq_fields w, funct7Of, rs2Of, rs1Of, funct3Of, rdOf, opcodeOf, and_127, and_7]

theorem and_maskImm : w &&& 0xFFF0007F = place (funct7Of w) 25 ||| place (rs2Of w) 20 ||| place (opcodeOf w) 0 := by
  simp [and_eq_fields w, funct7Of, rs2Of, rs1Of, funct3Of, rdOf, opcodeOf, and_127, and_31]

theorem and_maskImmFunct3 :
    w &&& 0xFFF0707F =
      place (funct7Of w) 25 ||| place (rs2Of w) 20 ||| place (funct3Of w) 12 ||| place (opcodeOf w) 0 := by
  simp [and_eq_fields w, funct7Of, rs2Of, rs1Of, funct3Of, rdOf, opcodeOf, and_127, and_31, and_7]

end

/-! ## Keys give the match value -/

section
variable {w : Word}

theorem opKey_funct7 (f : RFields) : (opKey f).extractLsb' 3 7 = f.funct7 := by
  apply BitVec.eq_of_getLsbD_eq
  intro k hk
  simp [opKey, hk, show 3 + k < 10 by omega, show ¬ 3 + k < 3 by omega]

theorem opKey_funct3 (f : RFields) : (opKey f).extractLsb' 0 3 = f.funct3 := by
  apply BitVec.eq_of_getLsbD_eq
  intro k hk
  simp [opKey, hk, show k < 10 by omega]

theorem and_f3Row {op : BitVec 7} (hop : opcodeOf w = op) :
    w &&& (f3Row op (funct3Of w)).2 = (f3Row op (funct3Of w)).1 := by
  rw [f3Row, ← hop]
  exact and_maskFunct3 w

theorem and_opRow (hop : opcodeOf w = 0x33#7) :
    w &&& (opRow (opKey (decodeR w))).2 = (opRow (opKey (decodeR w))).1 := by
  rw [opRow, opKey_funct7, opKey_funct3, ← hop]
  exact and_maskFunct7Funct3 w

theorem and_opImmRow (hop : opcodeOf w = 0x13#7) :
    w &&& (opImmRow (opImmKey (decodeI w))).2 = (opImmRow (opImmKey (decodeI w))).1 := by
  rw [opImmKey, decodeI, immHi_immI, immLo_immI]
  split
  · next h3 =>
    rw [opImmRow, if_pos h3]
    exact and_f3Row hop
  split
  · next h3 h7 =>
    rw [opImmRow, if_neg h3, if_pos h7, ← hop]
    exact and_maskImmFunct3 w
  · next h3 h7 =>
    rw [opImmRow, if_neg h3, if_neg h7, ← hop]
    exact and_maskFunct7Funct3 w

theorem rs2Set_subset_rmSet : ∀ f7 ∈ rs2Set, f7 ∈ rmSet := by decide

theorem and_fpRow (hop : opcodeOf w = 0x53#7) :
    w &&& (fpRow (fpKey (decodeR w))).2 = (fpRow (fpKey (decodeR w))).1 := by
  rw [fpKey, fpRow, decodeR, ← hop]
  by_cases hrm : funct7Of w ∈ rmSet
  · by_cases hrs : funct7Of w ∈ rs2Set
    · simpa [hrm, hrs] using and_maskImm w
    · simpa [hrm, hrs] using and_maskFunct7 w
  · simpa [hrm, mt (rs2Set_subset_rmSet _) hrm] using and_maskFunct7Funct3 w

theorem and_systemRow (hop : opcodeOf w = 0x73#7) :
    w &&& (systemRow (decodeI w).imm.toInt).2 = (systemRow (decodeI w).imm.toInt).1 := by
  have himm : BitVec.ofInt 12 (immI w).toInt = funct7Of w ++ rs2Of w := by
    rw [immI_eq_wImmI, wImmI, BitVec.toInt_signExtend_of_le (by decide), BitVec.ofInt_toInt]
    exact (BitVec.extractLsb'_append_extractLsb'_eq_extractLsb' (start₁ := 20) (len₁ := 5) rfl).symm
  rw [systemRow, decodeI, himm, place_append, ← hop]
  exact and_maskImm w

/-- A table whose slots' rows are given by their keys answers an instruction with the word in its row. -/
theorem inRow_of_slot {K F : Type} [DecidableEq K] {table : List (K × (F → Instr))} {row : K → Word × Word}
    {key : K} {f : F} {i : Instr} (htable : ∀ p ∈ table, ∀ f, (p.2 f).row = row p.1)
    (hw : w &&& (row key).2 = (row key).1) (h : (slotAt table key).map (· f) = some i) : InRow w i := by
  obtain ⟨slot, hslot, rfl⟩ := Option.map_eq_some_iff.mp h
  rw [InRow, htable _ (mem_of_slotAt hslot) f]
  exact hw

/-- The instruction of a single-slot group (R121, R124) is fixed by the opcode alone. -/
theorem inRow_of_opcode {i : Instr} (hrow : i.row = (place (opcodeOf w) 0, 0x0000007F)) : InRow w i := by
  rw [InRow, hrow]
  exact and_maskOpcode w

/-- An instruction that the decoder answers has the word in its row. -/
theorem inRow_of_decode {i : Instr} (h : decode w = .ok i) : InRow w i := by
  obtain ⟨g, hop, hi⟩ := decode_eq_ok.mp h
  cases g with
  | load => exact inRow_of_slot loadSlots_row (and_f3Row hop) hi
  | opImm => exact inRow_of_slot opImmSlots_row (and_opImmRow hop) hi
  | store => exact inRow_of_slot storeSlots_row (and_f3Row hop) hi
  | op => exact inRow_of_slot opSlots_row (and_opRow hop) hi
  | opFp => exact inRow_of_slot opFpSlots_row (and_fpRow hop) hi
  | branch => exact inRow_of_slot branchSlots_row (and_f3Row hop) hi
  | system =>
    simp only [Group.lookup] at hi
    exact inRow_of_slot systemSlots_row (and_systemRow hop) hi
  | _ =>
    cases hi
    exact inRow_of_opcode (by rw [hop]; rfl)

end

end Sys2Proof
end

section
/-! SUPPORT. Integer register instructions: the words that spell one of a group, and what its operand form answers. Then
the statements of 40_base_alu.md. -/

namespace Sys2Proof.Claims

open Sys2Proof.Machine

/-! ## The words of a row -/

/-- A row's words spell an instruction when they decode to it: no word outside the row does (`inRow_of_decode`). -/
theorem spells_of_decode {mtch mask : Word} {mk : Word → Instr} (hrow : ∀ w, (mk w).row = (mtch, mask))
    (hdec : ∀ w, w &&& mask = mtch → decode w = .ok (mk w)) : Spells mtch mask mk := by
  refine fun w => ⟨hdec w, fun h => ?_⟩
  have hw := inRow_of_decode h
  rwa [InRow, hrow w] at hw

theorem decode_of_opSlot {w : Word} {slot : RFields → Instr} (hop : opcodeOf w = 0x33#7)
    (hslot : slotAt opSlots (opKey (decodeR w)) = some slot) : decode w = .ok (slot (decodeR w)) :=
  decode_eq_ok.mpr ⟨.op, hop, by rw [Group.lookup, hslot]; rfl⟩

theorem decode_of_opImmSlot {w : Word} {slot : IFields → Instr} (hop : opcodeOf w = 0x13#7)
    (hslot : slotAt opImmSlots (opImmKey (decodeI w)) = some slot) : decode w = .ok (slot (decodeI w)) :=
  decode_eq_ok.mpr ⟨.opImm, hop, by rw [Group.lookup, hslot]; rfl⟩

/-- The words of an OP row: opcode, funct3 and funct7 are the match value's, so the key is too (R118). -/
theorem spells_of_opSlot {mtch : Word} {mk : RegIdx → RegIdx → RegIdx → Instr}
    (hrow : ∀ rd rs1 rs2, (mk rd rs1 rs2).row = (mtch, 0xFE00707F)) (hop : opcodeOf mtch = 0x33#7)
    (hslot : slotAt opSlots (opKey (decodeR mtch)) = some fun f => mk f.rd f.rs1 f.rs2) :
    Spells mtch 0xFE00707F fun w => mk (wRd w) (wRs1 w) (wRs2 w) := by
  refine spells_of_decode (fun _ => hrow _ _ _) fun w hw => ?_
  have h3 : funct3Of w = funct3Of mtch := extractLsb'_of_and_eq hw rfl
  have h7 : funct7Of w = funct7Of mtch := extractLsb'_of_and_eq hw rfl
  have hkey : opKey (decodeR w) = opKey (decodeR mtch) := by simp only [opKey, decodeR, h3, h7]
  exact decode_of_opSlot ((extractLsb'_of_and_eq hw rfl).trans hop) (hkey ▸ hslot)

/-- The words of an OP-IMM row with an immediate operand: the key is funct3 (R119). -/
theorem spells_of_opImmSlot {mtch : Word} {mk : RegIdx → RegIdx → Word → Instr}
    (hrow : ∀ rd rs1 imm, (mk rd rs1 imm).row = (mtch, 0x0000707F)) (hop : opcodeOf mtch = 0x13#7)
    (h3 : funct3Of mtch ≠ 0b001#3 ∧ funct3Of mtch ≠ 0b101#3)
    (hslot : slotAt opImmSlots (funct3Of mtch, 0, 0) = some fun f => mk f.rd f.rs1 f.imm) :
    Spells mtch 0x0000707F fun w => mk (wRd w) (wRs1 w) (wImmI w) := by
  refine spells_of_decode (fun _ => hrow _ _ _) fun w hw => ?_
  have hw3 : funct3Of w = funct3Of mtch := extractLsb'_of_and_eq hw rfl
  have hkey : opImmKey (decodeI w) = (funct3Of mtch, 0, 0) := by simp only [opImmKey, decodeI, hw3, if_pos h3]
  rw [← immI_eq_wImmI]
  exact decode_of_opImmSlot ((extractLsb'_of_and_eq hw rfl).trans hop) (hkey ▸ hslot)

/-- The words of an OP-IMM row with a 5-bit operand: the key is funct3 and imm[11:5] (R119). -/
theorem spells_of_opImmLoSlot {mtch : Word} {mk : RegIdx → RegIdx → BitVec 5 → Instr}
    (hrow : ∀ rd rs1 lo, (mk rd rs1 lo).row = (mtch, 0xFE00707F)) (hop : opcodeOf mtch = 0x13#7)
    (h3 : ¬ (funct3Of mtch ≠ 0b001#3 ∧ funct3Of mtch ≠ 0b101#3))
    (h7 : ¬ (funct3Of mtch = 0b001#3 ∧ funct7Of mtch = 0b0110000#7))
    (hslot : slotAt opImmSlots (funct3Of mtch, funct7Of mtch, 0) = some fun f => mk f.rd f.rs1 (immLo f.imm)) :
    Spells mtch 0xFE00707F fun w => mk (wRd w) (wRs1 w) (wRs2 w) := by
  refine spells_of_decode (fun _ => hrow _ _ _) fun w hw => ?_
  have hw3 : funct3Of w = funct3Of mtch := extractLsb'_of_and_eq hw rfl
  have hw7 : funct7Of w = funct7Of mtch := extractLsb'_of_and_eq hw rfl
  have hkey : opImmKey (decodeI w) = (funct3Of mtch, funct7Of mtch, 0) := by
    simp only [opImmKey, decodeI, immHi_immI, hw3, hw7, if_neg h3, if_neg h7]
  have hlo : immLo (immI w) = wRs2 w := immLo_immI w
  rw [← hlo]
  exact decode_of_opImmSlot ((extractLsb'_of_and_eq hw rfl).trans hop) (hkey ▸ hslot)

/-! ## What an operand form answers -/

section
variable {i : Instr} {s : State} {rd : RegIdx}

theorem writeX_advance (v : Word) : (s.writeX rd v).advance = { s with x := putX s rd v, pc := s.pc + 4 } := by
  by_cases h : rd = 0#5 <;> simp [h, State.writeX, putX, State.advance, State.jump]

theorem goesX_of_setX {v : Word} (hexec : exec i s = complete i s (s.setX rd v)) : GoesX i s rd v := by
  rw [GoesX, hexec, State.setX, writeX_advance, complete_ok]

/-- A register-register instruction is its operand form: two reads, then one write (40_base_alu.md R160). -/
theorem regReg_of_opXX {mk : RegIdx → RegIdx → RegIdx → Instr} {g r : Word → Word → Word}
    (hexec : ∀ s rd rs1 rs2, exec (mk rd rs1 rs2) s = complete (mk rd rs1 rs2) s (s.opXX rd rs1 rs2 g))
    (hg : ∀ a b, g a b = r a b) : RegReg mk r := by
  obtain rfl : g = r := funext₂ hg
  refine fun s rd rs1 rs2 => ⟨fun a b ha hb => goesX_of_setX ?_, fun ha => ?_, fun a ha hb => ?_⟩
  · rw [hexec, State.opXX, hasX_iff_readX.mp ha, hasX_iff_readX.mp hb, ok_bind, ok_bind]
  · rw [Stops, hexec, State.opXX, lacksX_iff_readX.mp ha]
    rfl
  · rw [Stops, hexec, State.opXX, hasX_iff_readX.mp ha, lacksX_iff_readX.mp hb]
    rfl

/-- An instruction of one source register is its operand form: one read, then one write. -/
theorem oneReg_of_opX {K : Type} {mk : RegIdx → RegIdx → K → Instr} {P : Word → K → Word → Prop}
    {g : Word → K → Word}
    (hexec : ∀ s rd rs1 k, exec (mk rd rs1 k) s = complete (mk rd rs1 k) s (s.opX rd rs1 (g · k)))
    (hP : ∀ a k, P a k (g a k)) : OneReg mk P := by
  refine fun s rd rs1 k => ⟨fun a ha => ⟨g a k, hP a k, goesX_of_setX ?_⟩, fun ha => ?_⟩
  · rw [hexec, State.opX, hasX_iff_readX.mp ha, ok_bind]
  · rw [Stops, hexec, State.opX, lacksX_iff_readX.mp ha]
    rfl

end

/-! ## Comparisons and shift amounts -/

theorem boolWord_ltS (a b : Word) : boolWord (ltS a b) = if a.toInt < b.toInt then 1 else 0 := by
  simp [boolWord, ltS]

theorem boolWord_ltU (a b : Word) : boolWord (ltU a b) = if a.toNat < b.toNat then 1 else 0 := by
  simp [boolWord, ltU]

/-- The amount a register gives a shift is its value modulo 32 (R160). -/
theorem toNat_amount (b : Word) : (amount b).toNat = b.toNat % 32 := by
  simp [amount]

theorem shl_amount (a b : Word) : shl a (amount b) = a <<< (b.toNat % 32) := by rw [shl, toNat_amount]
theorem shrU_amount (a b : Word) : shrU a (amount b) = a >>> (b.toNat % 32) := by rw [shrU, toNat_amount]
theorem shrS_amount (a b : Word) : shrS a (amount b) = a.sshiftRight (b.toNat % 32) := by rw [shrS, toNat_amount]

/-! ## The rules of the statements -/

theorem regRegRule_of_opSlot {mtch : Word} {mk : RegIdx → RegIdx → RegIdx → Instr} {g r : Word → Word → Word}
    (hrow : ∀ rd rs1 rs2, (mk rd rs1 rs2).row = (mtch, 0xFE00707F)) (hop : opcodeOf mtch = 0x33#7)
    (hslot : slotAt opSlots (opKey (decodeR mtch)) = some fun f => mk f.rd f.rs1 f.rs2)
    (hexec : ∀ s rd rs1 rs2, exec (mk rd rs1 rs2) s = complete (mk rd rs1 rs2) s (s.opXX rd rs1 rs2 g))
    (hg : ∀ a b, g a b = r a b) : RegRegRule mtch mk r :=
  ⟨spells_of_opSlot hrow hop hslot, regReg_of_opXX hexec hg⟩

theorem regImmRule_of_opImmSlot {mtch : Word} {mk : RegIdx → RegIdx → Word → Instr} {g r : Word → Word → Word}
    (hrow : ∀ rd rs1 imm, (mk rd rs1 imm).row = (mtch, 0x0000707F)) (hop : opcodeOf mtch = 0x13#7)
    (h3 : funct3Of mtch ≠ 0b001#3 ∧ funct3Of mtch ≠ 0b101#3)
    (hslot : slotAt opImmSlots (funct3Of mtch, 0, 0) = some fun f => mk f.rd f.rs1 f.imm)
    (hexec : ∀ s rd rs1 imm, exec (mk rd rs1 imm) s = complete (mk rd rs1 imm) s (s.opX rd rs1 (g · imm)))
    (hg : ∀ a imm, g a imm = r a imm) : RegImmRule mtch mk r :=
  ⟨spells_of_opImmSlot hrow hop h3 hslot, oneReg_of_opX hexec hg⟩

theorem regLoRule_of_opImmSlot {mtch : Word} {mk : RegIdx → RegIdx → BitVec 5 → Instr}
    {P : Word → BitVec 5 → Word → Prop} {g : Word → BitVec 5 → Word}
    (hrow : ∀ rd rs1 lo, (mk rd rs1 lo).row = (mtch, 0xFE00707F)) (hop : opcodeOf mtch = 0x13#7)
    (h3 : ¬ (funct3Of mtch ≠ 0b001#3 ∧ funct3Of mtch ≠ 0b101#3))
    (h7 : ¬ (funct3Of mtch = 0b001#3 ∧ funct7Of mtch = 0b0110000#7))
    (hslot : slotAt opImmSlots (funct3Of mtch, funct7Of mtch, 0) = some fun f => mk f.rd f.rs1 (immLo f.imm))
    (hexec : ∀ s rd rs1 lo, exec (mk rd rs1 lo) s = complete (mk rd rs1 lo) s (s.opX rd rs1 (g · lo)))
    (hP : ∀ a lo, P a lo (g a lo)) : RegLoRule mtch mk P :=
  ⟨spells_of_opImmLoSlot hrow hop h3 h7 hslot, oneReg_of_opX hexec hP⟩

/-! ## The statements -/

/-- Settles O29: each of the ten is an OP slot whose meaning is `opXX`. The meaning's result is the statement's at once,
or by the comparison's value or the amount a register gives a shift. -/
theorem registerRegister : Obligations.RegisterRegister := by
  refine ⟨?add, ?sub, ?sll, ?slt, ?sltu, ?xor, ?srl, ?sra, ?or, ?and⟩
  case slt => exact regRegRule_of_opSlot (fun _ _ _ => rfl) rfl rfl (fun _ _ _ _ => rfl) boolWord_ltS
  case sltu => exact regRegRule_of_opSlot (fun _ _ _ => rfl) rfl rfl (fun _ _ _ _ => rfl) boolWord_ltU
  case sll => exact regRegRule_of_opSlot (fun _ _ _ => rfl) rfl rfl (fun _ _ _ _ => rfl) shl_amount
  case srl => exact regRegRule_of_opSlot (fun _ _ _ => rfl) rfl rfl (fun _ _ _ _ => rfl) shrU_amount
  case sra => exact regRegRule_of_opSlot (fun _ _ _ => rfl) rfl rfl (fun _ _ _ _ => rfl) shrS_amount
  case add | sub | xor | or | and =>
    exact regRegRule_of_opSlot (fun _ _ _ => rfl) rfl rfl (fun _ _ _ _ => rfl) fun _ _ => rfl

/-- Settles O30: each of the nine is an OP-IMM slot whose meaning is `opX`, the shifts those with a 5-bit operand. -/
theorem registerImmediate : Obligations.RegisterImmediate := by
  refine ⟨?addi, ?slti, ?sltiu, ?xori, ?ori, ?andi, ?slli, ?srli, ?srai⟩
  case slti => exact regImmRule_of_opImmSlot (fun _ _ _ => rfl) rfl (by decide) rfl (fun _ _ _ _ => rfl) boolWord_ltS
  case sltiu => exact regImmRule_of_opImmSlot (fun _ _ _ => rfl) rfl (by decide) rfl (fun _ _ _ _ => rfl) boolWord_ltU
  case addi | xori | ori | andi =>
    exact regImmRule_of_opImmSlot (fun _ _ _ => rfl) rfl (by decide) rfl (fun _ _ _ _ => rfl) fun _ _ => rfl
  case slli | srli | srai =>
    exact regLoRule_of_opImmSlot (fun _ _ _ => rfl) rfl (by decide) (by decide) rfl (fun _ _ _ _ => rfl) fun _ _ => rfl

/-- Settles O31: LUI and AUIPC are alone in their groups, and neither reads a register. -/
theorem upperImmediate : Obligations.UpperImmediate := by
  refine ⟨spells_of_decode (fun _ => rfl) fun w hw => ?_, spells_of_decode (fun _ => rfl) fun w hw => ?_,
    fun s rd imm => ⟨goesX_of_setX rfl, goesX_of_setX rfl⟩⟩
  · rw [← immU_eq_wImmU]
    exact decode_eq_ok.mpr ⟨.lui, extractLsb'_of_and_eq hw rfl, rfl⟩
  · rw [← immU_eq_wImmU]
    exact decode_eq_ok.mpr ⟨.auipc, extractLsb'_of_and_eq hw rfl, rfl⟩

end Sys2Proof.Claims
end

section
/-! SUPPORT. Branches and jumps: the words that spell a branch, what the operand form answers, and the state after a
jump. Then the statements of 41_control_flow.md. -/

namespace Sys2Proof.Claims

open Sys2Proof.Machine

/-! ## The words of a branch's row -/

/-- The words of a BRANCH row: opcode and funct3 are the match value's, and funct3 is the key (R120). -/
theorem spells_of_branchSlot {mtch : Word} {mk : RegIdx → RegIdx → Word → Instr}
    (hrow : ∀ rs1 rs2 imm, (mk rs1 rs2 imm).row = (mtch, 0x0000707F)) (hop : opcodeOf mtch = 0x63#7)
    (hslot : slotAt branchSlots (funct3Of mtch) = some fun f => mk f.rs1 f.rs2 f.imm) :
    Spells mtch 0x0000707F fun w => mk (wRs1 w) (wRs2 w) (wImmB w) := by
  refine spells_of_decode (fun _ => hrow _ _ _) fun w hw => ?_
  have hwop : opcodeOf w = 0x63#7 := (extractLsb'_of_and_eq hw rfl).trans hop
  have hkey : (decodeB w).funct3 = funct3Of mtch := extractLsb'_of_and_eq hw rfl
  rw [← immB_eq_wImmB]
  exact decode_eq_ok.mpr ⟨.branch, hwop, by rw [Group.lookup, hkey, hslot]; rfl⟩

/-! ## What a branch answers -/

section
variable {s : State} {rs1 rs2 : RegIdx} {imm a b : Word} {cond : Word → Word → Bool}

theorem branch_of_hasX (ha : HasX s rs1 a) (hb : HasX s rs2 b) :
    s.branch rs1 rs2 imm cond = .ok (if cond a b then s.jump (s.pc + imm) else s.advance) := by
  rw [State.branch, hasX_iff_readX.mp ha, hasX_iff_readX.mp hb, ok_bind, ok_bind]

theorem branch_of_lacksX_rs1 (ha : LacksX s rs1) :
    s.branch rs1 rs2 imm cond = .error (.unwrittenRegister .X rs1) := by
  rw [State.branch, lacksX_iff_readX.mp ha]
  rfl

theorem branch_of_lacksX_rs2 (ha : HasX s rs1 a) (hb : LacksX s rs2) :
    s.branch rs1 rs2 imm cond = .error (.unwrittenRegister .X rs2) := by
  rw [State.branch, hasX_iff_readX.mp ha, lacksX_iff_readX.mp hb]
  rfl

end

/-- A BRANCH slot whose meaning is the operand form with the condition's Boolean obeys the rule of branches (R200). -/
theorem branchRule_of_branchSlot {mtch : Word} {mk : RegIdx → RegIdx → Word → Instr} {cond : Word → Word → Bool}
    {c : Word → Word → Prop} (hrow : ∀ rs1 rs2 imm, (mk rs1 rs2 imm).row = (mtch, 0x0000707F))
    (hop : opcodeOf mtch = 0x63#7)
    (hslot : slotAt branchSlots (funct3Of mtch) = some fun f => mk f.rs1 f.rs2 f.imm)
    (hexec : ∀ s rs1 rs2 imm, exec (mk rs1 rs2 imm) s = complete (mk rs1 rs2 imm) s (s.branch rs1 rs2 imm cond))
    (hcond : ∀ a b, cond a b = true ↔ c a b) : BranchRule mtch mk c := by
  refine ⟨spells_of_branchSlot hrow hop hslot, fun s rs1 rs2 imm =>
    ⟨fun a b ha hb => ⟨fun h => ?taken, fun h => ?notTaken⟩, fun ha => ?rs1, fun a ha hb => ?rs2⟩⟩
  case taken =>
    rw [hexec, branch_of_hasX ha hb, if_pos ((hcond a b).mpr h)]
    rfl
  case notTaken =>
    rw [hexec, branch_of_hasX ha hb, if_neg (mt (hcond a b).mp h)]
    rfl
  case rs1 =>
    rw [Stops, hexec, branch_of_lacksX_rs1 ha]
    rfl
  case rs2 =>
    rw [Stops, hexec, branch_of_lacksX_rs2 ha hb]
    rfl

/-! ## The conditions -/

section
variable (a b : Word)

theorem ltS_iff : ltS a b = true ↔ a.toInt < b.toInt := decide_eq_true_iff
theorem ltU_iff : ltU a b = true ↔ a.toNat < b.toNat := decide_eq_true_iff

theorem not_ltS_iff : (!ltS a b) = true ↔ b.toInt ≤ a.toInt := by
  rw [Bool.not_eq_true', ← Bool.not_eq_true, ltS_iff, not_lt]

theorem not_ltU_iff : (!ltU a b) = true ↔ b.toNat ≤ a.toNat := by
  rw [Bool.not_eq_true', ← Bool.not_eq_true, ltU_iff, not_lt]

end

/-! ## Jumps -/

theorem writeX_jump (s : State) (rd : RegIdx) (v target : Word) :
    (s.writeX rd v).jump target = { s with x := putX s rd v, pc := target } := by
  by_cases h : rd = 0#5 <;> simp [h, State.writeX, putX, State.jump]

/-- A word with bit 0 cleared keeps its 31 other bits. -/
theorem and_clear_bit0 (w : Word) : w &&& 0xFFFFFFFE = w.extractLsb' 1 31 ++ 0#1 := by
  have hw : w = w.extractLsb' 1 31 ++ w.extractLsb' 0 1 := by
    rw [BitVec.extractLsb'_append_extractLsb'_eq_extractLsb' (start₁ := 0) (start₂ := 1) rfl,
      BitVec.extractLsb'_eq_self]
  calc w &&& 0xFFFFFFFE = (w.extractLsb' 1 31 ++ w.extractLsb' 0 1) &&& (BitVec.allOnes 31 ++ 0#1) := by
        rw [← hw]; rfl
    _ = w.extractLsb' 1 31 ++ 0#1 := by rw [BitVec.and_append, BitVec.and_allOnes, BitVec.and_zero]

theorem exec_jal (s : State) (rd : RegIdx) (imm : Word) :
    exec (.jal rd imm) s = .next { s with x := putX s rd (s.pc + 4), pc := s.pc + imm } := by
  rw [← writeX_jump]
  rfl

section
variable {s : State} {rd rs1 : RegIdx} {f3 : BitVec 3} {imm : Word}

theorem exec_jalr : exec (.jalr rd f3 rs1 imm) s = complete (.jalr rd f3 rs1 imm) s
    (s.readX rs1 >>= fun a => .ok ((s.writeX rd (s.pc + 4)).jump (jalrTarget a imm))) := rfl

theorem exec_jalr_of_hasX {a : Word} (ha : HasX s rs1 a) : exec (.jalr rd f3 rs1 imm) s =
    .next { s with x := putX s rd (s.pc + 4), pc := (a + imm).extractLsb' 1 31 ++ 0#1 } := by
  rw [exec_jalr, hasX_iff_readX.mp ha, ok_bind, complete_ok, writeX_jump, jalrTarget, and_clear_bit0]

theorem stops_jalr_of_lacksX (ha : LacksX s rs1) : Stops (.jalr rd f3 rs1 imm) s (.unwrittenRegister .X rs1) := by
  rw [Stops, exec_jalr, lacksX_iff_readX.mp ha]
  rfl

end

/-! ## The statements -/

/-- Settles O32: each of the six is a BRANCH slot whose meaning is `State.branch`, with the Boolean of its condition. -/
theorem conditionalBranches : Obligations.ConditionalBranches := by
  refine ⟨?beq, ?bne, ?blt, ?bge, ?bltu, ?bgeu⟩
  case beq => exact branchRule_of_branchSlot (fun _ _ _ => rfl) rfl rfl (fun _ _ _ _ => rfl) fun _ _ => beq_iff_eq
  case bne => exact branchRule_of_branchSlot (fun _ _ _ => rfl) rfl rfl (fun _ _ _ _ => rfl) fun _ _ => bne_iff_ne
  case blt => exact branchRule_of_branchSlot (fun _ _ _ => rfl) rfl rfl (fun _ _ _ _ => rfl) ltS_iff
  case bge => exact branchRule_of_branchSlot (fun _ _ _ => rfl) rfl rfl (fun _ _ _ _ => rfl) not_ltS_iff
  case bltu => exact branchRule_of_branchSlot (fun _ _ _ => rfl) rfl rfl (fun _ _ _ _ => rfl) ltU_iff
  case bgeu => exact branchRule_of_branchSlot (fun _ _ _ => rfl) rfl rfl (fun _ _ _ _ => rfl) not_ltU_iff

/-- Settles O33: JAL and JALR are alone in their groups, a jump's state is `writeX_jump`, and clearing bit 0 is
`and_clear_bit0`. That a bad target stops the next step is fetch's alignment check alone, whatever led to that pc. -/
theorem jumps : Obligations.Jumps := by
  refine ⟨spells_of_decode (fun _ => rfl) fun w hw => ?jal, spells_of_decode (fun _ => rfl) fun w hw => ?jalr,
    exec_jal, fun s rd f3 rs1 imm => ⟨fun a => exec_jalr_of_hasX, stops_jalr_of_lacksX⟩,
    fun s t rd rs1 f3 imm hrun hpc _ => step_of_fetch_error hrun (fetch_misaligned hpc)⟩
  case jal =>
    rw [← immJ_eq_wImmJ]
    exact decode_eq_ok.mpr ⟨.jal, extractLsb'_of_and_eq hw rfl, rfl⟩
  case jalr =>
    rw [← immI_eq_wImmI]
    exact decode_eq_ok.mpr ⟨.jalr, extractLsb'_of_and_eq hw rfl, rfl⟩

end Sys2Proof.Claims
end

section
/-! SUPPORT. Loads and stores: the words that spell one, its access checks in order, the bytes a load reads and those a
store leaves. Then the statements of 42_load_store.md. -/

namespace Sys2Proof.Claims

open Sys2Proof.Machine

/-! ## The words of a row keyed by funct3 -/

/-- The words of a row whose group's key is funct3 (R120): opcode and funct3 are the match value's, so it is enough to
know what the group's lookup answers under that funct3. -/
theorem spells_of_funct3Lookup {mtch : Word} {mk : Word → Instr} (g : Group)
    (hrow : ∀ w, (mk w).row = (mtch, 0x0000707F)) (hop : opcodeOf mtch = g.opcode)
    (hlookup : ∀ w, funct3Of w = funct3Of mtch → g.lookup w = some (mk w)) : Spells mtch 0x0000707F mk :=
  spells_of_decode hrow fun w hw =>
    decode_eq_ok.mpr ⟨g, (extractLsb'_of_and_eq hw rfl).trans hop, hlookup w (extractLsb'_of_and_eq hw rfl)⟩

theorem spells_of_loadSlot {mtch : Word} {mk : RegIdx → RegIdx → Word → Instr}
    (hrow : ∀ rd rs1 imm, (mk rd rs1 imm).row = (mtch, 0x0000707F)) (hop : opcodeOf mtch = 0x03#7)
    (hslot : slotAt loadSlots (funct3Of mtch) = some fun f => mk f.rd f.rs1 f.imm) :
    Spells mtch 0x0000707F fun w => mk (wRd w) (wRs1 w) (wImmI w) := by
  refine spells_of_funct3Lookup .load (fun _ => hrow _ _ _) hop fun w hw => ?_
  have hkey : (decodeI w).funct3 = funct3Of mtch := hw
  rw [Group.lookup, hkey, hslot, ← immI_eq_wImmI]
  rfl

theorem spells_of_storeSlot {mtch : Word} {mk : RegIdx → RegIdx → Word → Instr}
    (hrow : ∀ rs1 rs2 imm, (mk rs1 rs2 imm).row = (mtch, 0x0000707F)) (hop : opcodeOf mtch = 0x23#7)
    (hslot : slotAt storeSlots (funct3Of mtch) = some fun f => mk f.rs1 f.rs2 f.imm) :
    Spells mtch 0x0000707F fun w => mk (wRs1 w) (wRs2 w) (wImmS w) := by
  refine spells_of_funct3Lookup .store (fun _ => hrow _ _ _) hop fun w hw => ?_
  have hkey : (decodeS w).funct3 = funct3Of mtch := hw
  rw [Group.lookup, hkey, hslot, ← immS_eq_wImmS]
  rfl

/-! ## The checks of an access (R220, steps 3 and 4) -/

section
variable {s : State} {addr : Word} {n : Nat} {e₁ e₂ : StopReason}

theorem alignOk_iff : AlignOk s addr n ↔ ¬ (s.params.misalignedDataPolicy = .fault ∧ addr.toNat % n ≠ 0) := by
  rw [AlignOk, not_and, not_not]

theorem checkAccess_misaligned (ha : ¬ AlignOk s addr n) : s.checkAccess addr n e₁ e₂ = .error e₁ :=
  if_pos (not_not.mp (mt alignOk_iff.mpr ha))

theorem checkAccess_outOfRange (ha : AlignOk s addr n) (hr : s.params.memSize < addr.toNat + n) :
    s.checkAccess addr n e₁ e₂ = .error e₂ := by
  rw [State.checkAccess, if_neg (alignOk_iff.mp ha), if_pos (Nat.not_le.mpr hr)]

theorem checkAccess_ok (ha : AlignOk s addr n) (hr : s.InRange addr n) : s.checkAccess addr n e₁ e₂ = .ok () :=
  State.checkAccess_eq_ok.mpr ⟨alignOk_iff.mp ha, hr⟩

end

/-! ## What a load and a store answer -/

section
variable {i : Instr} {s : State} {rd rs1 rs2 : RegIdx} {imm base data : Word} {n : Nat} {g : Memory → Nat → Word}

theorem stops_of_error {e : StopReason} (hexec : exec i s = complete i s (.error e)) : Stops i s e := hexec

theorem load_of_lacksX (hb : LacksX s rs1) : s.load rd rs1 imm n g = .error (.unwrittenRegister .X rs1) := by
  rw [State.load, lacksX_iff_readX.mp hb]
  rfl

theorem load_of_hasX (hb : HasX s rs1 base) : s.load rd rs1 imm n g =
    (s.checkAccess (base + imm) n (.loadMisaligned (base + imm)) (.loadOutOfRange (base + imm)) >>=
      fun _ => s.setX rd (g s.mem (base + imm).toNat)) := by
  rw [State.load, hasX_iff_readX.mp hb, ok_bind]

theorem store_of_lacksX_rs1 (hb : LacksX s rs1) : s.store rs1 rs2 imm n = .error (.unwrittenRegister .X rs1) := by
  rw [State.store, lacksX_iff_readX.mp hb]
  rfl

theorem store_of_lacksX_rs2 (hb : HasX s rs1 base) (hd : LacksX s rs2) :
    s.store rs1 rs2 imm n = .error (.unwrittenRegister .X rs2) := by
  rw [State.store, hasX_iff_readX.mp hb, lacksX_iff_readX.mp hd]
  rfl

theorem store_of_hasX (hb : HasX s rs1 base) (hd : HasX s rs2 data) : s.store rs1 rs2 imm n =
    (s.checkAccess (base + imm) n (.storeMisaligned (base + imm)) (.storeOutOfRange (base + imm)) >>= fun _ =>
      .ok { s with mem := s.mem.writeBytes (base + imm).toNat (bytesOf data n), pc := s.pc + 4 }) := by
  rw [State.store, hasX_iff_readX.mp hb, hasX_iff_readX.mp hd]
  rfl

end

/-! ## Bytes read and written -/

theorem read8_eq_place (m : Memory) (a : Nat) : m.read8 a = place (m.read a) 0 := by
  simp [Memory.read8, wordOfBytes]

theorem read16_eq_place (m : Memory) (a : Nat) : m.read16 a = place (halfAt m a) 0 := by
  rw [halfAt, place_append]
  simp [Memory.read16, wordOfBytes]

theorem sext_read8 (m : Memory) (a : Nat) : sext 8 (m.read8 a) = (m.read a).signExtend 32 := by
  rw [read8_eq_place, sext_place (by decide) (by decide)]

theorem sext_read16 (m : Memory) (a : Nat) : sext 16 (m.read16 a) = (halfAt m a).signExtend 32 := by
  rw [read16_eq_place, sext_place (by decide) (by decide)]

theorem read8_eq_setWidth (m : Memory) (a : Nat) : m.read8 a = (m.read a).setWidth 32 := by
  rw [read8_eq_place, place_low]

theorem read16_eq_setWidth (m : Memory) (a : Nat) : m.read16 a = (halfAt m a).setWidth 32 := by
  rw [read16_eq_place, place_low]

/-- Writing the `n` low bytes of a word in order leaves them stored, in canonical form, and no other byte changed. -/
theorem storedAt_writeBytes {m : Memory} (hm : m.wf = true) (a n : Nat) (v : Word) :
    StoredAt m (m.writeBytes a (bytesOf v n)) a n v := by
  refine ⟨Memory.wf_writeBytes hm a _, fun c => ?_⟩
  have hspan : (a ≤ c ∧ c < a + n) ↔ a ≤ c ∧ c - a < (bytesOf v n).length := by
    rw [bytesOf_length]
    omega
  rw [Memory.read_writeBytes hm]
  by_cases hc : a ≤ c ∧ c < a + n
  · rw [if_pos hc, dif_pos (hspan.mp hc)]
    simp [bytesOf, byteOf]
  · rw [if_neg hc, dif_neg (mt hspan.mpr hc)]

/-! ## The rules of the statements -/

/-- A LOAD slot whose meaning is the operand form obeys the rule of loads (R220). -/
theorem loadRule_of_loadSlot {mtch : Word} {mk : RegIdx → RegIdx → Word → Instr} {n : Nat} {g r : Memory → Nat → Word}
    (hrow : ∀ rd rs1 imm, (mk rd rs1 imm).row = (mtch, 0x0000707F)) (hop : opcodeOf mtch = 0x03#7)
    (hslot : slotAt loadSlots (funct3Of mtch) = some fun f => mk f.rd f.rs1 f.imm)
    (hexec : ∀ s rd rs1 imm, exec (mk rd rs1 imm) s = complete (mk rd rs1 imm) s (s.load rd rs1 imm n g))
    (hg : ∀ m a, g m a = r m a) : LoadRule mtch mk n r := by
  obtain rfl : g = r := funext₂ hg
  refine ⟨spells_of_loadSlot hrow hop hslot, fun s rd rs1 imm => ⟨fun hb => stops_of_error ?rs1, fun base hb =>
    ⟨fun ha => stops_of_error ?misaligned, fun ha hr => stops_of_error ?outOfRange,
      fun ha hr => goesX_of_setX ?loaded⟩⟩⟩
  case rs1 => rw [hexec, load_of_lacksX hb]
  case misaligned => rw [hexec, load_of_hasX hb, checkAccess_misaligned ha, error_bind]
  case outOfRange => rw [hexec, load_of_hasX hb, checkAccess_outOfRange ha hr, error_bind]
  case loaded => rw [hexec, load_of_hasX hb, checkAccess_ok ha hr, ok_bind]

/-- A STORE slot whose meaning is the operand form obeys the rule of stores (R220). -/
theorem storeRule_of_storeSlot {mtch : Word} {mk : RegIdx → RegIdx → Word → Instr} {n : Nat}
    (hrow : ∀ rs1 rs2 imm, (mk rs1 rs2 imm).row = (mtch, 0x0000707F)) (hop : opcodeOf mtch = 0x23#7)
    (hslot : slotAt storeSlots (funct3Of mtch) = some fun f => mk f.rs1 f.rs2 f.imm)
    (hexec : ∀ s rs1 rs2 imm, exec (mk rs1 rs2 imm) s = complete (mk rs1 rs2 imm) s (s.store rs1 rs2 imm n)) :
    StoreRule mtch mk n := by
  refine ⟨spells_of_storeSlot hrow hop hslot, fun s rs1 rs2 imm => ⟨fun hb => stops_of_error ?rs1,
    fun base hb hd => stops_of_error ?rs2, fun base data hb hd =>
      ⟨fun ha => stops_of_error ?misaligned, fun ha hr => stops_of_error ?outOfRange,
        fun ha hr hm => ⟨_, storedAt_writeBytes hm _ n data, ?stored⟩⟩⟩⟩
  case rs1 => rw [hexec, store_of_lacksX_rs1 hb]
  case rs2 => rw [hexec, store_of_lacksX_rs2 hb hd]
  case misaligned => rw [hexec, store_of_hasX hb hd, checkAccess_misaligned ha, error_bind]
  case outOfRange => rw [hexec, store_of_hasX hb hd, checkAccess_outOfRange ha hr, error_bind]
  case stored => rw [hexec, store_of_hasX hb hd, checkAccess_ok ha hr, ok_bind, complete_ok]

/-! ## The statements -/

/-- Settles O34: each of the five is a LOAD slot whose meaning is `State.load`; what it loads is the bytes at the
address as one field, extended. -/
theorem loads : Obligations.Loads := by
  refine ⟨?lb, ?lh, ?lw, ?lbu, ?lhu⟩
  case lb => exact loadRule_of_loadSlot (fun _ _ _ => rfl) rfl rfl (fun _ _ _ _ => rfl) sext_read8
  case lh => exact loadRule_of_loadSlot (fun _ _ _ => rfl) rfl rfl (fun _ _ _ _ => rfl) sext_read16
  case lw => exact loadRule_of_loadSlot (fun _ _ _ => rfl) rfl rfl (fun _ _ _ _ => rfl) read32_eq_wordAt
  case lbu => exact loadRule_of_loadSlot (fun _ _ _ => rfl) rfl rfl (fun _ _ _ _ => rfl) read8_eq_setWidth
  case lhu => exact loadRule_of_loadSlot (fun _ _ _ => rfl) rfl rfl (fun _ _ _ _ => rfl) read16_eq_setWidth

/-- Settles O35: each of the three is a STORE slot whose meaning is `State.store`; the memory it leaves is
`storedAt_writeBytes`. -/
theorem stores : Obligations.Stores := by
  refine ⟨?sb, ?sh, ?sw⟩
  case sb | sh | sw => exact storeRule_of_storeSlot (fun _ _ _ => rfl) rfl rfl fun _ _ _ _ => rfl

end Sys2Proof.Claims
end

section
/-! SUPPORT. FENCE, EBREAK and the environment calls: the words of a SYSTEM row, what each call number runs, the checks
that write and read share, and what each call answers. Then the statements of 43_system.md. -/

namespace Sys2Proof.Claims

open Sys2Proof.Machine

/-! ## The words of a SYSTEM row -/

/-- The words of a SYSTEM row: opcode and immediate are the match value's, and the immediate is the key (R122). -/
theorem spells_of_systemSlot {mtch : Word} {mk : RegIdx → BitVec 3 → RegIdx → Instr}
    (hrow : ∀ rd f3 rs1, (mk rd f3 rs1).row = (mtch, 0xFFF0007F)) (hop : opcodeOf mtch = 0x73#7)
    (hslot : slotAt systemSlots (immI mtch).toInt = some fun f => mk f.rd f.funct3 f.rs1) :
    Spells mtch 0xFFF0007F fun w => mk (wRd w) (wF3 w) (wRs1 w) := by
  refine spells_of_decode (fun _ => hrow _ _ _) fun w hw => ?_
  have himm : w.extractLsb' 20 12 = mtch.extractLsb' 20 12 := extractLsb'_of_and_eq hw rfl
  have hkey : (decodeI w).imm = immI mtch := by
    rw [decodeI, immI_eq_wImmI, immI_eq_wImmI, wImmI, himm, wImmI]
  exact decode_eq_ok.mpr
    ⟨.system, (extractLsb'_of_and_eq hw rfl).trans hop, by rw [Group.lookup, hkey, hslot]; rfl⟩

theorem spells_ecall : Spells 0x00000073 0xFFF0007F fun w => .ecall (wRd w) (wF3 w) (wRs1 w) :=
  spells_of_systemSlot (fun _ _ _ => rfl) rfl rfl

theorem spells_ebreak : Spells 0x00100073 0xFFF0007F fun w => .ebreak (wRd w) (wF3 w) (wRs1 w) :=
  spells_of_systemSlot (fun _ _ _ => rfl) rfl rfl

/-- FENCE is alone in its group. -/
theorem spells_fence : Spells 0x0000000F 0x0000007F fun w => .fence (wRd w) (wF3 w) (wRs1 w) (wImmI w) := by
  refine spells_of_decode (fun _ => rfl) fun w hw => ?_
  rw [← immI_eq_wImmI]
  exact decode_eq_ok.mpr ⟨.miscMem, extractLsb'_of_and_eq hw rfl, rfl⟩

/-! ## The checks that write and read share -/

/-- A host call's form (R243, R244): the three arguments, the file descriptor, the buffer, then the host's answer. -/
def hostCall (s : State) (n fd : Word) (answer : Word → Word → State) : Act := do
  let v0 ← s.readX a0
  let buf ← s.readX a1
  let len ← s.readX a2
  if v0 ≠ fd then .error (.unsupportedEcall n (some v0))
  else
    s.checkBuffer buf len
    .ok (answer buf len)

theorem ecallWrite_eq_hostCall (s : State) : s.ecallWrite =
    hostCall s 64 1 fun buf len => s.hostWrite (s.mem.readBytes buf.toNat len.toNat) := rfl

theorem ecallRead_eq_hostCall (s : State) : s.ecallRead =
    hostCall s 63 0 fun buf len => s.hostRead buf len.toNat := rfl

section
variable {s : State} {n fd v0 buf len : Word} {answer : Word → Word → State}

theorem checkBuffer_ok (hr : BufferOk s buf len) : s.checkBuffer buf len = .ok () := State.checkBuffer_eq_ok.mpr hr

theorem checkBuffer_outOfRange (hr : ¬ BufferOk s buf len) :
    s.checkBuffer buf len = .error (.ecallOutOfRange buf len) := if_pos (Classical.not_imp.mp hr)

theorem hostCall_of_lacksX_a0 (h0 : LacksX s a0) : hostCall s n fd answer = .error (.unwrittenRegister .X a0) := by
  rw [hostCall, lacksX_iff_readX.mp h0, error_bind]

theorem hostCall_of_lacksX_a1 (h0 : HasX s a0 v0) (h1 : LacksX s a1) :
    hostCall s n fd answer = .error (.unwrittenRegister .X a1) := by
  rw [hostCall, hasX_iff_readX.mp h0, ok_bind, lacksX_iff_readX.mp h1, error_bind]

theorem hostCall_of_lacksX_a2 (h0 : HasX s a0 v0) (h1 : HasX s a1 buf) (h2 : LacksX s a2) :
    hostCall s n fd answer = .error (.unwrittenRegister .X a2) := by
  rw [hostCall, hasX_iff_readX.mp h0, ok_bind, hasX_iff_readX.mp h1, ok_bind, lacksX_iff_readX.mp h2, error_bind]

/-- With the three arguments read, the file descriptor and the buffer decide. -/
theorem hostCall_of_hasX (h0 : HasX s a0 v0) (h1 : HasX s a1 buf) (h2 : HasX s a2 len) : hostCall s n fd answer =
    if v0 ≠ fd then .error (.unsupportedEcall n (some v0))
    else s.checkBuffer buf len >>= fun _ => .ok (answer buf len) := by
  rw [hostCall, hasX_iff_readX.mp h0, ok_bind, hasX_iff_readX.mp h1, ok_bind, hasX_iff_readX.mp h2, ok_bind]

theorem hostCall_of_wrong_fd (h0 : HasX s a0 v0) (h1 : HasX s a1 buf) (h2 : HasX s a2 len) (hfd : v0 ≠ fd) :
    hostCall s n fd answer = .error (.unsupportedEcall n (some v0)) := by
  rw [hostCall_of_hasX h0 h1 h2, if_pos hfd]

theorem hostCall_outOfRange (h0 : HasX s a0 fd) (h1 : HasX s a1 buf) (h2 : HasX s a2 len)
    (hr : ¬ BufferOk s buf len) : hostCall s n fd answer = .error (.ecallOutOfRange buf len) := by
  rw [hostCall_of_hasX h0 h1 h2, if_neg (not_not.mpr rfl), checkBuffer_outOfRange hr, error_bind]

theorem hostCall_ok (h0 : HasX s a0 fd) (h1 : HasX s a1 buf) (h2 : HasX s a2 len) (hr : BufferOk s buf len) :
    hostCall s n fd answer = .ok (answer buf len) := by
  rw [hostCall_of_hasX h0 h1 h2, if_neg (not_not.mpr rfl), checkBuffer_ok hr, ok_bind]

end

/-! ## What each call number runs -/

section
variable {s : State} {n : Word}

theorem ecall_of_lacksX (h7 : LacksX s a7) : s.ecall = .error (.unwrittenRegister .X a7) := by
  have hread : s.readX regA7 = .error (.unwrittenRegister .X a7) := lacksX_iff_readX.mp h7
  rw [State.ecall, hread, error_bind]

theorem ecall_of_hasX (h7 : HasX s a7 n) : s.ecall =
    if n = 93 then s.ecallExit else if n = 64 then s.ecallWrite else if n = 63 then s.ecallRead
    else .error (.unsupportedEcall n none) := by
  have hread : s.readX regA7 = .ok n := hasX_iff_readX.mp h7
  rw [State.ecall, hread, ok_bind]
  rfl

theorem ecall_exit (h7 : HasX s a7 93) : s.ecall = s.ecallExit := by
  rw [ecall_of_hasX h7, if_pos rfl]

theorem ecall_write (h7 : HasX s a7 64) : s.ecall =
    hostCall s 64 1 fun buf len => s.hostWrite (s.mem.readBytes buf.toNat len.toNat) := by
  rw [ecall_of_hasX h7, if_neg (by decide), if_pos rfl, ecallWrite_eq_hostCall]

theorem ecall_read (h7 : HasX s a7 63) : s.ecall = hostCall s 63 0 fun buf len => s.hostRead buf len.toNat := by
  rw [ecall_of_hasX h7, if_neg (by decide), if_neg (by decide), if_pos rfl, ecallRead_eq_hostCall]

theorem ecall_unsupported (h7 : HasX s a7 n) (hexit : n ≠ 93) (hwrite : n ≠ 64) (hread : n ≠ 63) :
    s.ecall = .error (.unsupportedEcall n none) := by
  rw [ecall_of_hasX h7, if_neg hexit, if_neg hwrite, if_neg hread]

theorem ecallExit_of_lacksX (h0 : LacksX s a0) : s.ecallExit = .error (.unwrittenRegister .X a0) := by
  have hread : s.readX regA0 = .error (.unwrittenRegister .X a0) := lacksX_iff_readX.mp h0
  rw [State.ecallExit, hread, error_bind]

theorem ecallExit_of_hasX {code : Word} (h0 : HasX s a0 code) : s.ecallExit = .ok (s.halt code) := by
  have hread : s.readX regA0 = .ok code := hasX_iff_readX.mp h0
  rw [State.ecallExit, hread, ok_bind]

end

/-! ## What ECALL answers -/

section
variable {s : State} {rd : RegIdx} {f3 : BitVec 3} {rs1 : RegIdx} {code buf len : Word}

theorem exec_ecall : exec (.ecall rd f3 rs1) s = complete (.ecall rd f3 rs1) s s.ecall := rfl

theorem stops_ecall {e : StopReason} (h : s.ecall = .error e) : Stops (.ecall rd f3 rs1) s e :=
  stops_of_error (by rw [exec_ecall, h])

theorem exec_ecall_of_ok {t : State} (h : s.ecall = .ok t) : exec (.ecall rd f3 rs1) s = .next t := by
  rw [exec_ecall, h, complete_ok]

theorem exec_ecall_exit (h7 : HasX s a7 93) (h0 : HasX s a0 code) :
    exec (.ecall rd f3 rs1) s = .next (s.halt code) :=
  exec_ecall_of_ok ((ecall_exit h7).trans (ecallExit_of_hasX h0))

theorem stops_ecall_exit (h7 : HasX s a7 93) (h0 : LacksX s a0) :
    Stops (.ecall rd f3 rs1) s (.unwrittenRegister .X a0) :=
  stops_ecall ((ecall_exit h7).trans (ecallExit_of_lacksX h0))

theorem exec_ecall_write (h7 : HasX s a7 64) (h0 : HasX s a0 1) (h1 : HasX s a1 buf) (h2 : HasX s a2 len)
    (hr : BufferOk s buf len) :
    exec (.ecall rd f3 rs1) s = .next (s.hostWrite (s.mem.readBytes buf.toNat len.toNat)) :=
  exec_ecall_of_ok ((ecall_write h7).trans (hostCall_ok h0 h1 h2 hr))

theorem exec_ecall_read (h7 : HasX s a7 63) (h0 : HasX s a0 0) (h1 : HasX s a1 buf) (h2 : HasX s a2 len)
    (hr : BufferOk s buf len) : exec (.ecall rd f3 rs1) s = .next (s.hostRead buf len.toNat) :=
  exec_ecall_of_ok ((ecall_read h7).trans (hostCall_ok h0 h1 h2 hr))

end

/-- A call number that runs the host call form stops by its checks, in their order. -/
theorem hostCallStops_of_ecall {n fd : Word} {answer : State → Word → Word → State}
    (hcall : ∀ s, HasX s a7 n → s.ecall = hostCall s n fd (answer s)) : HostCallStops n fd := by
  intro s rd f3 rs1 h7
  have hstop : ∀ {e}, hostCall s n fd (answer s) = .error e → Stops (.ecall rd f3 rs1) s e :=
    fun h => stops_ecall ((hcall s h7).trans h)
  refine ⟨fun h0 => hstop ?a0, fun v0 h0 => ⟨fun h1 => hstop ?a1, fun buf h1 => ⟨fun h2 => hstop ?a2,
    fun len h2 => ⟨fun hfd => hstop ?fd, fun hfd hr => hstop ?range⟩⟩⟩⟩
  case a0 => exact hostCall_of_lacksX_a0 h0
  case a1 => exact hostCall_of_lacksX_a1 h0 h1
  case a2 => exact hostCall_of_lacksX_a2 h0 h1 h2
  case fd => exact hostCall_of_wrong_fd h0 h1 h2 hfd
  case range => exact hostCall_outOfRange (hfd ▸ h0) h1 h2 hr

theorem hostCallStops_write : HostCallStops 64 1 := hostCallStops_of_ecall fun _ => ecall_write
theorem hostCallStops_read : HostCallStops 63 0 := hostCallStops_of_ecall fun _ => ecall_read

/-! ## What the host's answer leaves -/

theorem readBytes_eq_map (m : Memory) (a n : Nat) : m.readBytes a n = (List.range n).map fun k => m.read (a + k) := by
  induction n generalizing a with
  | zero => rfl
  | succ n ih =>
    rw [Memory.readBytes, ih, List.range_succ_eq_map, List.map_cons, List.map_map]
    simp only [Function.comp_def, Nat.add_zero, Nat.add_succ, Nat.succ_add]

/-- The host delivers at most the bytes it is asked for (R245). -/
theorem hostBytes_length_le (draw n : Nat) : (hostBytes draw n).length ≤ n := by
  rw [hostBytes, List.length_map, List.length_range]
  exact Nat.le_of_lt_succ (Config.hostReadCount draw 0 n).isLt

/-- The bytes delivered stand at the buffer, and every other byte is kept. -/
theorem read_writeBytes_getD {m : Memory} (hm : m.wf = true) (a : Nat) (bytes : List Byte) (c : Nat) :
    (m.writeBytes a bytes).read c =
      if a ≤ c ∧ c < a + bytes.length then bytes.getD (c - a) 0 else m.read c := by
  have hspan : (a ≤ c ∧ c < a + bytes.length) ↔ a ≤ c ∧ c - a < bytes.length := by omega
  rw [Memory.read_writeBytes hm]
  by_cases hc : a ≤ c ∧ c < a + bytes.length
  · rw [if_pos hc, dif_pos (hspan.mp hc), List.getD_eq_getElem]
  · rw [if_neg hc, dif_neg (mt hspan.mpr hc)]

theorem hostWrite_eq (s : State) (bytes : List Byte) : s.hostWrite bytes = { s with
    hostLog := s.hostLog ++ [.write 1 bytes]
    hostDraws := s.hostDraws + 1
    x := putX s a0 (Config.hostWriteResult s.hostDraws 1 bytes)
    pc := s.pc + 4 } := writeX_advance _

theorem hostRead_eq (s : State) (buf : Word) (n : Nat) : s.hostRead buf n = { s with
    mem := s.mem.writeBytes buf.toNat (hostBytes s.hostDraws n)
    hostLog := s.hostLog ++ [.read 0 n (hostBytes s.hostDraws n)]
    hostDraws := s.hostDraws + 1
    x := putX s a0 (Config.hostReadResult s.hostDraws 0 n)
    pc := s.pc + 4 } := writeX_advance _

/-! ## The statements -/

/-- Settles O36: FENCE and EBREAK read nothing, so each answers the same in every state; no step is enabled once a stop
outcome is taken. -/
theorem fenceAndBreakpoint : Obligations.FenceAndBreakpoint :=
  ⟨spells_fence, spells_ebreak, fun _ _ _ _ _ => ⟨rfl, stops_of_error rfl, rfl⟩⟩

/-- Settles O37: call 93 reads a0 and sets `run` alone. -/
theorem ecallExit : Obligations.EcallExit := by
  refine ⟨fun s rd f3 rs1 h7 => ⟨fun code h0 => ⟨exec_ecall_exit h7 h0, rfl⟩, stops_ecall_exit h7⟩, ?_, ?_⟩
  · rfl
  · rfl

/-- Settles O38: call 64 is a host call that leaves `hostWrite_eq`, with the buffer's bytes read one by one. -/
theorem ecallWrite : Obligations.EcallWrite := by
  refine ⟨hostCallStops_write, fun s rd f3 rs1 buf len h7 h0 h1 h2 hr => ?_⟩
  rw [exec_ecall_write h7 h0 h1 h2 hr, hostWrite_eq, readBytes_eq_map]
  exact ⟨_, _, rfl⟩

/-- Settles O39: call 63 is a host call that leaves `hostRead_eq`, with the host's bytes at the buffer. -/
theorem ecallRead : Obligations.EcallRead := by
  refine ⟨hostCallStops_read, fun s rd f3 rs1 buf len hm h7 h0 h1 h2 hr => ?_⟩
  rw [exec_ecall_read h7 h0 h1 h2 hr, hostRead_eq]
  exact ⟨_, hostBytes s.hostDraws len.toNat, _, _, hostBytes_length_le _ _, Memory.wf_writeBytes hm _ _,
    read_writeBytes_getD hm _ _, rfl⟩

/-- Settles O40: a7 is read first, its value picks the call, and each call stops by its own checks before it answers. -/
theorem ecallUnsupported : Obligations.EcallUnsupported := by
  refine ⟨spells_ecall, fun s rd f3 rs1 => ⟨?a7, ?number, ?call57, ?exitStop, ?exit, ?host⟩, hostCallStops_write,
    hostCallStops_read⟩
  case a7 => exact fun h7 => stops_ecall (ecall_of_lacksX h7)
  case number => exact fun n h7 hexit hwrite hread => stops_ecall (ecall_unsupported h7 hexit hwrite hread)
  case call57 => exact fun h7 => stops_ecall (ecall_unsupported h7 (by decide) (by decide) (by decide))
  case exitStop => exact stops_ecall_exit
  case exit => exact fun code h7 h0 => ⟨_, exec_ecall_exit h7 h0, State.halt_run s code⟩
  case host =>
    rintro n fd buf len (⟨rfl, rfl⟩ | ⟨rfl, rfl⟩) h7 h0 h1 h2 hr
    · exact ⟨_, exec_ecall_write h7 h0 h1 h2 hr, hostWrite_run _, _, hostWrite_hostLog _⟩
    · exact ⟨_, exec_ecall_read h7 h0 h1 h2 hr, hostRead_run _ _, _, hostRead_hostLog _ _⟩

end Sys2Proof.Claims
end

section
/-! SUPPORT. The results of multiply and divide in the statements' vocabulary: the floor of an exact quotient, the
quotient truncated toward zero, and the two corners of the signed rules. Then the statement on results of
44_multiply_divide.md. -/

namespace Sys2Proof.Claims

open Sys2Proof.Machine

/-! ## High words of a product -/

/-- The model's integer quotient is the floor of the exact one (R262). -/
theorem floor_div_two_pow (z : ℤ) (n : ℕ) : ⌊(z : ℚ) / 2 ^ n⌋ = z / 2 ^ n :=
  mod_cast Rat.floor_intCast_div_natCast z (2 ^ n)

theorem mulHigh_eq_floor (a b : Word) : mulHigh a b = BitVec.ofInt 32 ⌊(a.toInt * b.toInt : ℚ) / 2 ^ 32⌋ := by
  rw [mulHigh, ← floor_div_two_pow, Int.cast_mul]

theorem mulHighSU_eq_floor (a b : Word) : mulHighSU a b = BitVec.ofInt 32 ⌊(a.toInt * b.toNat : ℚ) / 2 ^ 32⌋ := by
  rw [mulHighSU, ← floor_div_two_pow, Int.cast_mul, Int.cast_natCast]

theorem mulHighU_eq_floor (a b : Word) : mulHighU a b = BitVec.ofInt 32 ⌊(a.toNat * b.toNat : ℚ) / 2 ^ 32⌋ := by
  have hfloor := floor_div_two_pow (a.toNat * b.toNat : ℕ) 32
  rw [Int.cast_natCast, Nat.cast_mul] at hfloor
  rw [hfloor, mulHighU, ← BitVec.ofInt_natCast, Int.natCast_ediv, Nat.cast_pow, Nat.cast_ofNat]

/-! ## Division toward zero -/

/-- Truncation toward zero (R265) divides the magnitudes and multiplies the signs; where the dividend's magnitude is the
smaller one, both sides are 0. -/
theorem tdiv_eq_sign_mul_natAbs_div (x y : ℤ) : x.tdiv y = x.sign * y.sign * (x.natAbs / y.natAbs : ℕ) := by
  rw [← Int.sign_mul_natAbs (x.tdiv y), Int.natAbs_tdiv, Int.sign_tdiv]
  split
  · next hlt => rw [zero_mul, Nat.div_eq_of_lt hlt, Nat.cast_zero, mul_zero]
  · rfl

/-- The remainder is what the truncated quotient leaves (R267). -/
theorem tmod_eq_sub_mul_sign_mul_natAbs_div (x y : ℤ) :
    x.tmod y = x - y * (x.sign * y.sign * (x.natAbs / y.natAbs : ℕ)) := by
  rw [Int.tmod_def, tdiv_eq_sign_mul_natAbs_div]

/-! ## The corners of the signed rules -/

theorem toInt_eq_zero_iff {b : Word} : b.toInt = 0 ↔ b = 0#32 := BitVec.toInt_inj (y := 0#32)

theorem toInt_overflow_iff {a b : Word} :
    a.toInt = -2 ^ 31 ∧ b.toInt = -1 ↔ a = 0x80000000#32 ∧ b = 0xFFFFFFFF#32 :=
  and_congr (BitVec.toInt_inj (y := 0x80000000#32)) (BitVec.toInt_inj (y := 0xFFFFFFFF#32))

theorem divS_eq (a b : Word) : divS a b =
    if b = 0#32 then 0xFFFFFFFF
    else if a = 0x80000000#32 ∧ b = 0xFFFFFFFF#32 then 0x80000000
    else BitVec.ofInt 32 (a.toInt.sign * b.toInt.sign * (a.toInt.natAbs / b.toInt.natAbs : ℕ)) := by
  simp only [divS, toInt_eq_zero_iff, toInt_overflow_iff, tdiv_eq_sign_mul_natAbs_div]

theorem remS_eq (a b : Word) : remS a b =
    if b = 0#32 then a
    else if a = 0x80000000#32 ∧ b = 0xFFFFFFFF#32 then 0
    else BitVec.ofInt 32
      (a.toInt - b.toInt * (a.toInt.sign * b.toInt.sign * (a.toInt.natAbs / b.toInt.natAbs : ℕ))) := by
  simp only [remS, toInt_eq_zero_iff, toInt_overflow_iff, tmod_eq_sub_mul_sign_mul_natAbs_div]

/-! ## The statement -/

/-- Settles O41: each of the eight is an OP slot whose meaning is `opXX`. MUL, DIVU and REMU have the statement's result
at once, the high words by the floor, and DIV and REM by truncation and the two corners. -/
theorem multiplyDivide : Obligations.MultiplyDivide := by
  refine ⟨?mul, ?mulh, ?mulhsu, ?mulhu, ?div, ?divu, ?rem, ?remu⟩
  case mulh => exact regRegRule_of_opSlot (fun _ _ _ => rfl) rfl rfl (fun _ _ _ _ => rfl) mulHigh_eq_floor
  case mulhsu => exact regRegRule_of_opSlot (fun _ _ _ => rfl) rfl rfl (fun _ _ _ _ => rfl) mulHighSU_eq_floor
  case mulhu => exact regRegRule_of_opSlot (fun _ _ _ => rfl) rfl rfl (fun _ _ _ _ => rfl) mulHighU_eq_floor
  case div => exact regRegRule_of_opSlot (fun _ _ _ => rfl) rfl rfl (fun _ _ _ _ => rfl) divS_eq
  case rem => exact regRegRule_of_opSlot (fun _ _ _ => rfl) rfl rfl (fun _ _ _ _ => rfl) remS_eq
  case mul | divu | remu =>
    exact regRegRule_of_opSlot (fun _ _ _ => rfl) rfl rfl (fun _ _ _ _ => rfl) fun _ _ => rfl

end Sys2Proof.Claims
end

section
/-! SUPPORT. Float instructions: the words that spell one of OP-FP or a fused multiply-add, the mode of rm, and what
each operand form answers. Then the statement on rounding modes of 45_float.md. -/

namespace Sys2Proof.Claims

open Sys2Proof.Machine

/-! ## The words of a row -/

/-- The mask keeps every field that FpKey reads of a word with this funct7 (R123). -/
abbrev KeepsFpKey (mask : Word) (f7 : BitVec 7) : Prop :=
  opcodeOf mask = BitVec.allOnes 7 ∧ funct7Of mask = BitVec.allOnes 7 ∧
    (f7 ∉ rmSet → funct3Of mask = BitVec.allOnes 3) ∧ (f7 ∈ rs2Set → rs2Of mask = BitVec.allOnes 5)

theorem fpKey_of_and_eq {w mask mtch : Word} (hw : w &&& mask = mtch) (hmask : KeepsFpKey mask (funct7Of mtch)) :
    fpKey (decodeR w) = fpKey (decodeR mtch) := by
  obtain ⟨-, hm7, hm3, hm2⟩ := hmask
  have h7 : funct7Of w = funct7Of mtch := extractLsb'_of_and_eq hw hm7
  have h3 (hrm : funct7Of mtch ∉ rmSet) : funct3Of w = funct3Of mtch := extractLsb'_of_and_eq hw (hm3 hrm)
  have h2 (hrs : funct7Of mtch ∈ rs2Set) : rs2Of w = rs2Of mtch := extractLsb'_of_and_eq hw (hm2 hrs)
  simp only [fpKey, decodeR, h7, Prod.mk.injEq, true_and]
  exact ⟨ite_congr rfl (fun _ => rfl) h3, ite_congr rfl h2 fun _ => rfl⟩

/-- The words of an OP-FP row: every field FpKey reads is the match value's, so the key is too (R123). -/
theorem spells_of_opFpSlot {mtch mask : Word} {slot : RFields → Instr} {mk : Word → Instr}
    (hslot : slotAt opFpSlots (fpKey (decodeR mtch)) = some slot) (hmk : ∀ w, slot (decodeR w) = mk w)
    (hrow : ∀ w, (mk w).row = (mtch, mask)) (hop : opcodeOf mtch = 0x53#7) (hmask : KeepsFpKey mask (funct7Of mtch)) :
    Spells mtch mask mk := by
  refine spells_of_decode hrow fun w hw => ?_
  refine decode_eq_ok.mpr ⟨.opFp, (extractLsb'_of_and_eq hw hmask.1).trans hop, ?_⟩
  rw [Group.lookup, fpKey_of_and_eq hw hmask, hslot, Option.map_some, hmk]

/-- The words of a single-slot group whose fields are those of R4 (R124). -/
theorem spellsFused_of_lookup {mtch : Word} {mk : RegIdx → RegIdx → RegIdx → RegIdx → BitVec 3 → BitVec 2 → Instr}
    (g : Group) (hop : opcodeOf mtch = g.opcode)
    (hrow : ∀ rd rs1 rs2 rs3 rm fmt, (mk rd rs1 rs2 rs3 rm fmt).row = (mtch, 0x0000007F))
    (hlookup : ∀ w, g.lookup w = some (mk (wRd w) (wRs1 w) (wRs2 w) (wRs3 w) (wF3 w) (wFmt w))) : SpellsFused mtch mk :=
  spells_of_decode (fun _ => hrow _ _ _ _ _ _) fun w hw =>
    decode_eq_ok.mpr ⟨g, (extractLsb'_of_and_eq hw rfl).trans hop, hlookup w⟩

/-! ## The mode of rm (R280) -/

section
variable {rm : BitVec 3} {m : RoundMode}

theorem roundMode_of_modeOf (h : ModeOf rm m) : roundMode rm = .ok m := by
  obtain ⟨rfl | rfl | rfl, rfl⟩ | ⟨rfl, rfl⟩ | ⟨rfl, rfl⟩ | ⟨rfl, rfl⟩ := h <;> rfl

theorem roundMode_of_reserved (h : Reserved rm) : roundMode rm = .error (.reservedRoundingMode rm) := by
  obtain rfl | rfl := h <;> rfl

theorem modeOf_of_not_reserved (h : ¬ Reserved rm) : ∃ m, ModeOf rm m := by
  have hcases : ∀ rm : BitVec 3, (rm = 0#3 ∨ rm = 4#3 ∨ rm = 7#3) ∨ rm = 1#3 ∨ rm = 2#3 ∨ rm = 3#3 ∨
      rm = 5#3 ∨ rm = 6#3 := by decide
  obtain hrne | hrtz | hrdn | hrup | hres := hcases rm
  · exact ⟨.rne, .inl ⟨hrne, rfl⟩⟩
  · exact ⟨.rtz, .inr (.inl ⟨hrtz, rfl⟩)⟩
  · exact ⟨.rdn, .inr (.inr (.inl ⟨hrdn, rfl⟩))⟩
  · exact ⟨.rup, .inr (.inr (.inr ⟨hrup, rfl⟩))⟩
  · exact absurd hres h

end

/-! ## What an operand form answers -/

section
variable {i : Instr} {s : State} {rd rs1 rs2 rs3 : RegIdx} {rm : BitVec 3} {m : RoundMode} {a b c : Word}

theorem goesF_of_setF {v : Word} (hexec : exec i s = complete i s (s.setF rd v)) : GoesF i s rd v := hexec

/-- A form that looks at rm first stops there for rm 5 and 6, whatever it would do next (R280). -/
theorem stops_of_reserved {next : RoundMode → Act} (h : Reserved rm)
    (hexec : exec i s = complete i s (roundMode rm >>= next)) : Stops i s (.reservedRoundingMode rm) := by
  rw [Stops, hexec, roundMode_of_reserved h]
  rfl

/-- A form whose next read is an `Unwritten` float register stops there, whatever it would do next. -/
theorem stops_of_lacksF {r : RegIdx} {next : Word → Act} (h : LacksF s r)
    (hexec : exec i s = complete i s (s.readF r >>= next)) : Stops i s (.unwrittenRegister .F r) := by
  rw [Stops, hexec, lacksF_iff_readF.mp h]
  rfl

theorem stops_of_lacksX {r : RegIdx} {next : Word → Act} (h : LacksX s r)
    (hexec : exec i s = complete i s (s.readX r >>= next)) : Stops i s (.unwrittenRegister .X r) := by
  rw [Stops, hexec, lacksX_iff_readX.mp h]
  rfl

/-- A legal mode, and then the form's reads. -/
theorem roundMode_bind {next : RoundMode → Act} (hm : ModeOf rm m) : (roundMode rm >>= next) = next m := by
  rw [roundMode_of_modeOf hm, ok_bind]

theorem readF_bind {r : RegIdx} {next : Word → Act} (ha : HasF s r a) : (s.readF r >>= next) = next a := by
  rw [hasF_iff_readF.mp ha, ok_bind]

theorem readX_bind {r : RegIdx} {next : Word → Act} (ha : HasX s r a) : (s.readX r >>= next) = next a := by
  rw [hasX_iff_readX.mp ha, ok_bind]

theorem goesF_of_opFFrm {g : RoundMode → Word → Word → Word}
    (hexec : exec i s = complete i s (s.opFFrm rd rs1 rs2 rm g)) (hm : ModeOf rm m) (ha : HasF s rs1 a)
    (hb : HasF s rs2 b) : GoesF i s rd (g m a b) :=
  goesF_of_setF (by rw [hexec, State.opFFrm, roundMode_bind hm, State.opFF, readF_bind ha, readF_bind hb])

theorem goesF_of_opFrm {g : RoundMode → Word → Word} (hexec : exec i s = complete i s (s.opFrm rd rs1 rm g))
    (hm : ModeOf rm m) (ha : HasF s rs1 a) : GoesF i s rd (g m a) :=
  goesF_of_setF (by rw [hexec, State.opFrm, roundMode_bind hm, readF_bind ha])

theorem goesF_of_opFFFrm {g : RoundMode → Word → Word → Word → Word}
    (hexec : exec i s = complete i s (s.opFFFrm rd rs1 rs2 rs3 rm g)) (hm : ModeOf rm m) (ha : HasF s rs1 a)
    (hb : HasF s rs2 b) (hc : HasF s rs3 c) : GoesF i s rd (g m a b c) :=
  goesF_of_setF
    (by rw [hexec, State.opFFFrm, roundMode_bind hm, readF_bind ha, readF_bind hb, readF_bind hc])

theorem goesX_of_opXF {g : Word → Word} (hexec : exec i s = complete i s (s.opXF rd rs1 g)) (ha : HasF s rs1 a) :
    GoesX i s rd (g a) :=
  goesX_of_setX (by rw [hexec, State.opXF, readF_bind ha])

theorem goesF_of_opFX {g : Word → Word} (hexec : exec i s = complete i s (s.opFX rd rs1 g)) (ha : HasX s rs1 a) :
    GoesF i s rd (g a) :=
  goesF_of_setF (by rw [hexec, State.opFX, readX_bind ha])

theorem goesX_of_opXFF {g : Word → Word → Word} (hexec : exec i s = complete i s (s.opXFF rd rs1 rs2 g))
    (ha : HasF s rs1 a) (hb : HasF s rs2 b) : GoesX i s rd (g a b) :=
  goesX_of_setX (by rw [hexec, State.opXFF, readF_bind ha, readF_bind hb])

end

/-! ## The shapes of the statements -/

section
variable {K : Type}

theorem floatRm_of_opFFrm {mk : RegIdx → RegIdx → RegIdx → BitVec 3 → Instr} {g : RoundMode → Word → Word → Word}
    {P : RoundMode → Word → Word → Word → Prop}
    (hexec : ∀ s rd rs1 rs2 rm, exec (mk rd rs1 rs2 rm) s = complete (mk rd rs1 rs2 rm) s (s.opFFrm rd rs1 rs2 rm g))
    (hP : ∀ m a b, P m a b (g m a b)) : FloatRm mk P := by
  refine fun s rd rs1 rs2 rm => ⟨fun m a b hm ha hb => ⟨_, hP m a b, goesF_of_opFFrm (hexec ..) hm ha hb⟩,
    fun hres => stops_of_reserved hres (hexec ..), fun hres ha => ?_, fun a hres ha hb => ?_⟩
  all_goals obtain ⟨m, hm⟩ := modeOf_of_not_reserved hres
  · exact stops_of_lacksF ha (by rw [hexec, State.opFFrm, roundMode_bind hm, State.opFF])
  · exact stops_of_lacksF hb (by rw [hexec, State.opFFrm, roundMode_bind hm, State.opFF, readF_bind ha])

theorem floatRm1_of_opFrm {mk : RegIdx → RegIdx → RegIdx → BitVec 3 → Instr} {g : RoundMode → Word → Word}
    {P : RoundMode → Word → Word → Prop}
    (hexec : ∀ s rd rs1 rs2 rm, exec (mk rd rs1 rs2 rm) s = complete (mk rd rs1 rs2 rm) s (s.opFrm rd rs1 rm g))
    (hP : ∀ m a, P m a (g m a)) : FloatRm1 mk P := by
  refine fun s rd rs1 rs2 rm => ⟨fun m a hm ha => ⟨_, hP m a, goesF_of_opFrm (hexec ..) hm ha⟩,
    fun hres => stops_of_reserved hres (hexec ..), fun hres ha => ?_⟩
  obtain ⟨m, hm⟩ := modeOf_of_not_reserved hres
  exact stops_of_lacksF ha (by rw [hexec, State.opFrm, roundMode_bind hm])

theorem fusedRm_of_opFFFrm {mk : RegIdx → RegIdx → RegIdx → RegIdx → BitVec 3 → BitVec 2 → Instr}
    {g : RoundMode → Word → Word → Word → Word} {P : RoundMode → Word → Word → Word → Word → Prop}
    (hexec : ∀ s rd rs1 rs2 rs3 rm fmt, exec (mk rd rs1 rs2 rs3 rm fmt) s =
      complete (mk rd rs1 rs2 rs3 rm fmt) s (s.opFFFrm rd rs1 rs2 rs3 rm g))
    (hP : ∀ m a b c, P m a b c (g m a b c)) : FusedRm mk P := by
  refine fun s rd rs1 rs2 rs3 rm fmt =>
    ⟨fun m a b c hm ha hb hc => ⟨_, hP m a b c, goesF_of_opFFFrm (hexec ..) hm ha hb hc⟩,
      fun hres => stops_of_reserved hres (hexec ..), fun hres ha => ?_, fun a hres ha hb => ?_,
      fun a b hres ha hb hc => ?_⟩
  all_goals obtain ⟨m, hm⟩ := modeOf_of_not_reserved hres
  · exact stops_of_lacksF ha (by rw [hexec, State.opFFFrm, roundMode_bind hm])
  · exact stops_of_lacksF hb (by rw [hexec, State.opFFFrm, roundMode_bind hm, readF_bind ha])
  · exact stops_of_lacksF hc (by rw [hexec, State.opFFFrm, roundMode_bind hm, readF_bind ha, readF_bind hb])

theorem floatFRule_of_opFF {mtch : Word} {mk : RegIdx → RegIdx → RegIdx → Instr} {g : Word → Word → Word}
    {P : Word → Word → Word → Prop} (hspells : Spells mtch 0xFE00707F fun w => mk (wRd w) (wRs1 w) (wRs2 w))
    (hexec : ∀ s rd rs1 rs2, exec (mk rd rs1 rs2) s = complete (mk rd rs1 rs2) s (s.opFF rd rs1 rs2 g))
    (hP : ∀ a b, P a b (g a b)) : FloatFRule mtch mk P := by
  refine ⟨hspells, fun s rd rs1 rs2 => ⟨fun a b ha hb => ⟨_, hP a b, goesF_of_setF ?_⟩,
    fun ha => stops_of_lacksF ha (hexec ..),
    fun a ha hb => stops_of_lacksF hb (by rw [hexec, State.opFF, readF_bind ha])⟩⟩
  rw [hexec, State.opFF, readF_bind ha, readF_bind hb]

theorem floatToX_of_opXF {mk : RegIdx → RegIdx → K → Instr} {g : State → Word → Word} {P : State → Word → Word → Prop}
    (hexec : ∀ s rd rs1 k, exec (mk rd rs1 k) s = complete (mk rd rs1 k) s (s.opXF rd rs1 (g s)))
    (hP : ∀ s a, P s a (g s a)) : FloatToX mk P :=
  fun s _ _ _ => ⟨fun a ha => ⟨_, hP s a, goesX_of_opXF (hexec ..) ha⟩, fun ha => stops_of_lacksF ha (hexec ..)⟩

theorem xToFloat_of_opFX {mk : RegIdx → RegIdx → K → Instr} {g : Word → Word} {P : Word → Word → Prop}
    (hexec : ∀ s rd rs1 k, exec (mk rd rs1 k) s = complete (mk rd rs1 k) s (s.opFX rd rs1 g))
    (hP : ∀ a, P a (g a)) : XToFloat mk P :=
  fun _ _ _ _ => ⟨fun a ha => ⟨_, hP a, goesF_of_opFX (hexec ..) ha⟩, fun ha => stops_of_lacksX ha (hexec ..)⟩

/-- A comparison is its operand form: the model's test `t` holds where the statement's condition does. -/
theorem compareRule_of_opXFF {mtch : Word} {mk : RegIdx → RegIdx → RegIdx → Instr} {t : Word → Word → Bool}
    {cond : WithBot (WithTop ℚ) → WithBot (WithTop ℚ) → Prop}
    (hspells : Spells mtch 0xFE00707F fun w => mk (wRd w) (wRs1 w) (wRs2 w))
    (hexec : ∀ s rd rs1 rs2, exec (mk rd rs1 rs2) s =
      complete (mk rd rs1 rs2) s (s.opXFF rd rs1 rs2 fun a b => boolWord (t a b)))
    (ht : ∀ a b, t a b = true ↔ ¬ IsNaN a ∧ ¬ IsNaN b ∧ cond (ext a) (ext b)) : CompareRule mtch mk cond := by
  refine ⟨hspells, fun s rd rs1 rs2 => ⟨fun a b ha hb => ?_, fun ha => stops_of_lacksF ha (hexec ..),
    fun a ha hb => stops_of_lacksF hb (by rw [hexec, State.opXFF, readF_bind ha])⟩⟩
  have hgoes := goesX_of_opXFF (hexec s rd rs1 rs2) ha hb
  rw [← ht]
  exact ⟨fun h => by rwa [boolWord, if_pos h] at hgoes, fun h => by rwa [boolWord, if_neg h] at hgoes⟩

end

/-! ## The statement -/

/-- Settles O43: every form that applies rm looks at it before its first read, and goes on in the mode that rm names;
the conversions' forms never look at it. -/
theorem roundingModes : Obligations.RoundingModes := by
  refine ⟨fun rm => ⟨fun m => roundMode_of_modeOf, roundMode_of_reserved⟩, fun s rd rs1 rs2 rs3 rm fmt hres => ?_,
    fun s rd rs1 rs2 rs3 rm fmt m a b c hm ha hb hc => ?_, fun s rd rs1 rm => ⟨fun a ha => ?_, fun v hv => ?_⟩⟩
  · rw [← List.forall_iff_forall_mem]
    and_intros <;> exact stops_of_reserved hres rfl
  · refine ⟨?add, ?sub, ?mul, ?div, goesF_of_opFrm rfl hm ha, ?madd, ?msub, ?nmsub, ?nmadd⟩
    case add | sub | mul | div => exact goesF_of_opFFrm rfl hm ha hb
    case madd | msub | nmsub | nmadd => exact goesF_of_opFFFrm rfl hm ha hb hc
  · exact ⟨goesX_of_opXF rfl ha, goesX_of_opXF rfl ha⟩
  · exact ⟨goesF_of_opFX rfl hv, goesF_of_opFX rfl hv⟩

end Sys2Proof.Claims
end

section
/-! SUPPORT. binary32 patterns by sign and magnitude: bit 31, and the number of bits 30:0, which orders the finite
values and ends in the infinity and the NaNs. `val` as an exact integer of units of 2^-149 (00_scope.md R16). -/

namespace Sys2Proof.Claims

open Sys2Proof.Machine

/-- Bits 30:0 as a number: the exponent and, below it, the fraction. -/
def magOf (a : Word) : Nat := a.toNat % 2 ^ 31

/-- The pattern with a sign bit over a magnitude. -/
def signMag (sign : Bool) (k : Nat) : Word := BitVec.ofBool sign ++ BitVec.ofNat 31 k

/-- The magnitude of ∞; the finite ones lie below it and the NaNs above. -/
def infMag : Nat := 0x7F800000

/-! ## Fields and classes by magnitude -/

section
variable {a b : Word}

theorem magOf_lt (a : Word) : magOf a < 2 ^ 31 := Nat.mod_lt _ (by decide)

theorem signOf_eq (a : Word) : signOf a = decide (2 ^ 31 ≤ a.toNat) := by
  exact (BitVec.msb_eq_getLsbD_last a).symm.trans (BitVec.msb_eq_decide a)

theorem expOf_eq (a : Word) : expOf a = magOf a / 2 ^ 23 := by
  rw [expOf, BitVec.extractLsb'_toNat, Nat.shiftRight_eq_div_pow, magOf]
  omega

theorem fracOf_eq (a : Word) : fracOf a = magOf a % 2 ^ 23 := by
  rw [fracOf, BitVec.extractLsb'_toNat, Nat.shiftRight_eq_div_pow, magOf]
  omega

theorem isNaN_iff_magOf : IsNaN a ↔ infMag < magOf a := by
  have := magOf_lt a
  rw [IsNaN, expOf_eq, fracOf_eq, infMag]
  omega

theorem isInf_iff_magOf : IsInf a ↔ magOf a = infMag := by
  have := magOf_lt a
  rw [IsInf, expOf_eq, fracOf_eq, infMag]
  omega

theorem isFinite_iff_magOf : IsFinite a ↔ magOf a < infMag := by
  have := magOf_lt a
  rw [IsFinite, expOf_eq, infMag]
  omega

theorem isZero_iff_magOf : IsZero a ↔ magOf a = 0 := by
  rw [IsZero, expOf_eq, fracOf_eq]
  omega

/-- A pattern that is no NaN is finite or an infinity. -/
theorem isFinite_or_isInf (h : ¬ IsNaN a) : IsFinite a ∨ IsInf a := by
  rw [isNaN_iff_magOf] at h
  rw [isFinite_iff_magOf, isInf_iff_magOf]
  omega

theorem IsFinite.not_isNaN (h : IsFinite a) : ¬ IsNaN a := fun hn => h hn.1
theorem IsFinite.not_isInf (h : IsFinite a) : ¬ IsInf a := fun hi => h hi.1
theorem IsInf.not_isNaN (h : IsInf a) : ¬ IsNaN a := fun hn => hn.2 h.2
theorem IsInf.not_isZero (h : IsInf a) : ¬ IsZero a := fun hz => by simp [IsInf, hz.1] at h
theorem IsZero.not_isNaN (h : IsZero a) : ¬ IsNaN a := fun hn => hn.2 h.2
theorem IsZero.not_isInf (h : IsZero a) : ¬ IsInf a := fun hi => hi.not_isZero h

/-- The model's tests are the statements' classes. -/
@[simp] theorem isNaN_iff : isNaN a = true ↔ IsNaN a := by simp [isNaN, IsNaN, fExp, fFrac, expOf, fracOf]
@[simp] theorem isInf_iff : isInf a = true ↔ IsInf a := by simp [isInf, IsInf, fExp, fFrac, expOf, fracOf]
@[simp] theorem isZero_iff : isZero a = true ↔ IsZero a := by simp [isZero, IsZero, fExp, fFrac, expOf, fracOf]
@[simp] theorem fSign_eq : fSign a = signOf a := rfl
@[simp] theorem zeroOf_eq (sign : Bool) : zeroOf sign = signedZero sign := rfl
@[simp] theorem infOf_eq (sign : Bool) : infOf sign = signedInf sign := rfl

end

/-! ## Patterns from a sign and a magnitude -/

theorem toNat_signMag {k : Nat} (sign : Bool) (hk : k < 2 ^ 31) : (signMag sign k).toNat = sign.toNat * 2 ^ 31 + k := by
  rw [signMag, BitVec.toNat_append, BitVec.toNat_ofBool, BitVec.toNat_ofNat, Nat.mod_eq_of_lt hk,
    ← Nat.shiftLeft_add_eq_or_of_lt hk, Nat.shiftLeft_eq]

theorem magOf_signMag {k : Nat} (sign : Bool) (hk : k < 2 ^ 31) : magOf (signMag sign k) = k := by
  rw [magOf, toNat_signMag sign hk]
  omega

theorem signOf_signMag {k : Nat} (sign : Bool) (hk : k < 2 ^ 31) : signOf (signMag sign k) = sign := by
  rw [signOf_eq, toNat_signMag sign hk]
  cases sign
  · simpa using hk
  · simp

/-- Sign and magnitude determine the pattern. -/
theorem signMag_signOf_magOf (a : Word) : signMag (signOf a) (magOf a) = a := by
  have h := a.isLt
  apply BitVec.eq_of_toNat_eq
  rw [toNat_signMag _ (magOf_lt a), signOf_eq, magOf]
  by_cases hs : 2 ^ 31 ≤ a.toNat
  · simp only [hs, decide_true, Bool.toNat_true]; omega
  · simp only [hs, decide_false, Bool.toNat_false]; omega

theorem signedZero_eq (sign : Bool) : signedZero sign = signMag sign 0 := by cases sign <;> rfl
theorem signedInf_eq (sign : Bool) : signedInf sign = signMag sign infMag := by cases sign <;> rfl

theorem negated_signMag (sign : Bool) (k : Nat) : negated (signMag sign k) = signMag (!sign) k := by
  have h : (0x80000000 : Word) = 1#1 ++ 0#31 := rfl
  rw [negated, h, signMag, signMag, BitVec.xor_append, BitVec.xor_zero]
  cases sign <;> rfl

theorem negated_eq_signMag (a : Word) : negated a = signMag (!signOf a) (magOf a) := by
  rw [← negated_signMag, signMag_signOf_magOf]

@[simp] theorem magOf_negated (a : Word) : magOf (negated a) = magOf a := by
  rw [negated_eq_signMag, magOf_signMag _ (magOf_lt a)]

@[simp] theorem signOf_negated (a : Word) : signOf (negated a) = !signOf a := by
  rw [negated_eq_signMag, signOf_signMag _ (magOf_lt a)]

theorem eq_signedInf {a : Word} (h : IsInf a) : a = signedInf (signOf a) := by
  rw [signedInf_eq, ← isInf_iff_magOf.mp h, signMag_signOf_magOf]

/-- A sign bit placed over 31 bits, as the model writes it. -/
theorem place_sign_or_place (sign : Bool) (v : BitVec 31) :
    place (BitVec.ofBool sign) 31 ||| place v 0 = (BitVec.ofBool sign ++ v : BitVec 32) := by
  have happend := place_append (BitVec.ofBool sign) v 0
  rw [place_low, BitVec.setWidth_eq] at happend
  exact happend.symm

theorem place_sign_or_ofNat {k : Nat} (sign : Bool) (hk : k < 2 ^ 31) :
    place (BitVec.ofBool sign) 31 ||| BitVec.ofNat 32 k = signMag sign k := by
  have hlow : BitVec.ofNat 32 k = place (BitVec.ofNat 31 k) 0 := by
    rw [place_low]
    apply BitVec.eq_of_toNat_eq
    rw [BitVec.toNat_setWidth, BitVec.toNat_ofNat, BitVec.toNat_ofNat]
    omega
  rw [hlow, place_sign_or_place, signMag]

theorem nanWord_eq (n : Config.NanBits) : nanWord n = signMag n.sign (infMag + (n.frac + 1)) := by
  have hfrac := n.frac.isLt
  have hlow : place (0xFF#8) 23 ||| place (BitVec.ofNat 23 (n.frac + 1)) 0 =
      BitVec.ofNat 32 (infMag + (n.frac + 1)) := by
    have happend := place_append (0xFF#8) (BitVec.ofNat 23 (n.frac + 1)) 0
    rw [← happend, place_low]
    apply BitVec.eq_of_toNat_eq
    rw [BitVec.toNat_setWidth, BitVec.toNat_append, BitVec.toNat_ofNat, BitVec.toNat_ofNat, BitVec.toNat_ofNat,
      ← Nat.shiftLeft_add_eq_or_of_lt (Nat.mod_lt _ (by decide)), Nat.shiftLeft_eq, infMag]
    omega
  rw [nanWord, BitVec.or_assoc, hlow, place_sign_or_ofNat _ (by rw [infMag]; omega)]

/-- Every legal value of the open parameters that name a NaN is one (R281). -/
theorem isNaN_nanWord (n : Config.NanBits) : IsNaN (nanWord n) := by
  have hfrac := n.frac.isLt
  rw [isNaN_iff_magOf, nanWord_eq, magOf_signMag _ (by rw [infMag]; omega)]
  omega

/-! ## Values in units of 2^-149 -/

/-- What a magnitude stands for, in units of 2^-149 (R16): the fraction alone in the lowest binade, and 2^23 more,
doubled once per exponent above 1, in the others. -/
def unitsAt (k : Nat) : Nat := if k / 2 ^ 23 = 0 then k % 2 ^ 23 else (2 ^ 23 + k % 2 ^ 23) * 2 ^ (k / 2 ^ 23 - 1)

theorem scaledMag_eq (a : Word) : scaledMag a = unitsAt (magOf a) := by
  have hexp : fExp a = magOf a / 2 ^ 23 := expOf_eq a
  have hfrac : fFrac a = magOf a % 2 ^ 23 := fracOf_eq a
  rw [scaledMag, hexp, hfrac, unitsAt]

theorem unitsAt_subnormal {t : Nat} (ht : t < 2 ^ 23) : unitsAt t = t := by
  rw [unitsAt, if_pos (Nat.div_eq_of_lt ht), Nat.mod_eq_of_lt ht]

theorem unitsAt_normal {t : Nat} (q : Nat) (ht : t < 2 ^ 23) :
    unitsAt ((q + 1) * 2 ^ 23 + t) = (2 ^ 23 + t) * 2 ^ q := by
  have hdiv : ((q + 1) * 2 ^ 23 + t) / 2 ^ 23 = q + 1 := by omega
  have hmod : ((q + 1) * 2 ^ 23 + t) % 2 ^ 23 = t := by omega
  rw [unitsAt, hdiv, hmod, if_neg q.succ_ne_zero, Nat.add_sub_cancel]

/-- `t` multiples of 2^q units are the magnitude q · 2^23 + t; above the lowest spacing, `t` has its leading bit. -/
theorem unitsAt_spacing {q t : Nat} (ht : t ≤ 2 ^ 24) (hq : q = 0 ∨ 2 ^ 23 ≤ t) :
    unitsAt (q * 2 ^ 23 + t) = t * 2 ^ q := by
  obtain hlt | hge := Nat.lt_or_ge t (2 ^ 23)
  · obtain rfl : q = 0 := by omega
    rw [zero_mul, zero_add, pow_zero, mul_one, unitsAt_subnormal hlt]
  obtain rfl | hlt := Nat.eq_or_lt_of_le ht
  · rw [show q * 2 ^ 23 + 2 ^ 24 = (q + 1 + 1) * 2 ^ 23 + 0 by ring, unitsAt_normal (q + 1) (by decide)]
    ring
  · obtain ⟨r, rfl⟩ := Nat.exists_eq_add_of_le hge
    rw [show q * 2 ^ 23 + (2 ^ 23 + r) = (q + 1) * 2 ^ 23 + r by ring, unitsAt_normal q (by omega)]

/-- Every magnitude is so many multiples of its spacing. -/
theorem exists_spacing (k : Nat) : ∃ q t, k = q * 2 ^ 23 + t ∧ t < 2 ^ 24 ∧ (q = 0 ∨ 2 ^ 23 ≤ t) :=
  ⟨k / 2 ^ 23 - 1, k - (k / 2 ^ 23 - 1) * 2 ^ 23, by omega, by omega, by omega⟩

theorem unitsAt_strictMono : StrictMono unitsAt := by
  refine strictMono_nat_of_lt_succ fun k => ?_
  obtain ⟨q, t, rfl, ht, hq⟩ := exists_spacing k
  rw [add_assoc, unitsAt_spacing ht.le hq, unitsAt_spacing (Nat.succ_le_of_lt ht) (hq.imp_right Nat.le_succ_of_le)]
  exact Nat.mul_lt_mul_of_pos_right t.lt_succ_self (by positivity)

theorem unitsAt_infMag : unitsAt infMag = 2 ^ 277 := by
  rw [show infMag = 254 * 2 ^ 23 + 2 ^ 23 from rfl, unitsAt_spacing (by decide) (by decide), ← pow_add]

theorem scaled_eq (a : Word) : scaled a = if signOf a then -(unitsAt (magOf a) : ℤ) else unitsAt (magOf a) := by
  rw [scaled, scaledMag_eq, fSign_eq]

@[simp] theorem scaled_negated (a : Word) : scaled (negated a) = -scaled a := by
  rw [scaled_eq, scaled_eq, magOf_negated, signOf_negated]
  cases signOf a <;> simp

/-- `val` is the model's exact integer, in units of 2^-149. -/
theorem val_eq_scaled (a : Word) : val a = scaled a * 2 ^ (-149 : ℤ) := by
  have hmag : (scaledMag a : ℚ) * 2 ^ (-149 : ℤ) = if expOf a = 0 then (fracOf a : ℚ) * 2 ^ (-149 : ℤ)
      else (2 ^ 23 + fracOf a : ℚ) * 2 ^ ((expOf a : ℤ) - 150) := by
    rw [show scaledMag a = if expOf a = 0 then fracOf a else (2 ^ 23 + fracOf a) * 2 ^ (expOf a - 1) from rfl]
    split
    · rfl
    · next hexp =>
      have hpow : ((expOf a : ℤ) - 150) = (expOf a - 1 : ℕ) + (-149 : ℤ) := by omega
      rw [hpow, zpow_add₀ two_ne_zero, zpow_natCast]
      push_cast
      ring
  rw [val, ← hmag, scaled, fSign_eq]
  cases signOf a <;> simp

end Sys2Proof.Claims
end

section
/-! SUPPORT. What the float operations without rounding answer: sign injection by bits, the order of `val` with the
infinities against the model's integers, and the class of a pattern. Then the statements of 45_float.md that need no
rounding. -/

namespace Sys2Proof.Claims

open Sys2Proof.Machine

/-! ## Sign injection -/

/-- A sign over the other 31 bits of a pattern (R293 to R295). -/
theorem withSign_eq (sign : Bool) (a : Word) :
    withSign sign a = (BitVec.ofBool sign ++ a.extractLsb' 0 31 : BitVec 32) :=
  place_sign_or_place sign _

theorem ofBool_signOf (a : Word) : BitVec.ofBool (signOf a) = a.extractLsb' 31 1 := by
  apply BitVec.eq_of_getLsbD_eq
  intro k hk
  obtain rfl : k = 0 := by omega
  simp [signOf]

/-! ## The order of values -/

section
variable {a b : Word}

theorem scaled_eq_zero_iff : scaled a = 0 ↔ IsZero a := by
  have hzero : unitsAt (magOf a) = 0 ↔ magOf a = 0 := unitsAt_strictMono.injective.eq_iff' rfl
  rw [isZero_iff_magOf, ← hzero, scaled_eq]
  cases signOf a <;> simp

theorem abs_scaled (a : Word) : |scaled a| = unitsAt (magOf a) := by
  rw [scaled_eq]
  cases signOf a <;> simp

theorem scaled_of_isInf (h : IsInf a) :
    scaled a = if signOf a then -(unitsAt infMag : ℤ) else unitsAt infMag := by
  rw [scaled_eq, isInf_iff_magOf.mp h]

/-- A finite value lies strictly between the two integers that stand for the infinities. -/
theorem scaled_bounds (h : IsFinite a) : -(unitsAt infMag : ℤ) < scaled a ∧ scaled a < unitsAt infMag := by
  rw [← abs_lt, abs_scaled, Nat.cast_lt]
  exact unitsAt_strictMono (isFinite_iff_magOf.mp h)

theorem ext_of_isFinite (h : IsFinite a) : ext a = ((val a : WithTop ℚ) : WithBot (WithTop ℚ)) := if_neg h

theorem ext_of_isInf (h : IsInf a) : ext a = if signOf a then ⊥ else ((⊤ : WithTop ℚ) : WithBot (WithTop ℚ)) :=
  if_pos h.1

theorem val_lt_val_iff : val a < val b ↔ scaled a < scaled b := by
  rw [val_eq_scaled, val_eq_scaled, mul_lt_mul_iff_left₀ (by positivity), Int.cast_lt]

/-- The model's integers order the values as the extended rationals do (R305). -/
theorem ext_lt_ext_iff (ha : ¬ IsNaN a) (hb : ¬ IsNaN b) : ext a < ext b ↔ scaled a < scaled b := by
  obtain ha | ha := isFinite_or_isInf ha <;> obtain hb | hb := isFinite_or_isInf hb
  · rw [ext_of_isFinite ha, ext_of_isFinite hb, WithBot.coe_lt_coe, WithTop.coe_lt_coe, val_lt_val_iff]
  · have hbounds := scaled_bounds ha
    rw [ext_of_isFinite ha, ext_of_isInf hb, scaled_of_isInf hb]
    cases signOf b
    · exact iff_of_true (WithBot.coe_lt_coe.mpr (WithTop.coe_lt_top _)) hbounds.2
    · simp [hbounds.1.le]
  · have hbounds := scaled_bounds hb
    rw [ext_of_isInf ha, ext_of_isFinite hb, scaled_of_isInf ha]
    cases signOf a
    · simp [hbounds.2.le]
    · simp [hbounds.1]
  · rw [ext_of_isInf ha, ext_of_isInf hb, scaled_of_isInf ha, scaled_of_isInf hb]
    have hpos : 0 < unitsAt infMag := unitsAt_strictMono (a := 0) (by decide)
    cases signOf a <;> cases signOf b <;> simp [hpos]

theorem ext_le_ext_iff (ha : ¬ IsNaN a) (hb : ¬ IsNaN b) : ext a ≤ ext b ↔ scaled a ≤ scaled b := by
  rw [← not_lt, ext_lt_ext_iff hb ha, not_lt]

theorem ext_eq_ext_iff (ha : ¬ IsNaN a) (hb : ¬ IsNaN b) : ext a = ext b ↔ scaled a = scaled b := by
  rw [le_antisymm_iff, ext_le_ext_iff ha hb, ext_le_ext_iff hb ha, ← le_antisymm_iff]

/-- A test that is false for a NaN and else compares the model's integers. -/
theorem compare_iff {r : ℤ → ℤ → Prop} [DecidableRel r]
    {cond : WithBot (WithTop ℚ) → WithBot (WithTop ℚ) → Prop}
    (hr : ∀ {a b : Word}, ¬ IsNaN a → ¬ IsNaN b → (cond (ext a) (ext b) ↔ r (scaled a) (scaled b))) (a b : Word) :
    (!isNaN a && !isNaN b && decide (r (scaled a) (scaled b))) = true ↔
      ¬ IsNaN a ∧ ¬ IsNaN b ∧ cond (ext a) (ext b) := by
  simp only [Bool.and_eq_true, Bool.not_eq_true', ← Bool.not_eq_true, isNaN_iff, decide_eq_true_eq, and_assoc]
  exact and_congr_right fun ha => and_congr_right fun hb => (hr ha hb).symm

theorem fEq_iff (a b : Word) : fEq a b = true ↔ ¬ IsNaN a ∧ ¬ IsNaN b ∧ ext a = ext b :=
  compare_iff (r := (· = ·)) (cond := (· = ·)) ext_eq_ext_iff a b

theorem fLt_iff (a b : Word) : fLt a b = true ↔ ¬ IsNaN a ∧ ¬ IsNaN b ∧ ext a < ext b :=
  compare_iff (r := (· < ·)) (cond := (· < ·)) ext_lt_ext_iff a b

theorem fLe_iff (a b : Word) : fLe a b = true ↔ ¬ IsNaN a ∧ ¬ IsNaN b ∧ ext a ≤ ext b :=
  compare_iff (r := (· ≤ ·)) (cond := (· ≤ ·)) ext_le_ext_iff a b

end

/-! ## Minimum and maximum -/

theorem oppositeZeros_iff {a b : Word} : oppositeZeros a b = true ↔ OppositeZeros a b := by
  simp [oppositeZeros, OppositeZeros, and_assoc]

/-- FMIN.S and FMAX.S are one choice, by the NaNs, the zeros of opposite signs, and whether the first operand is taken
(R296, R297). -/
theorem isMinMax_of_choice {op : Config.MinMaxOp} {first : WithBot (WithTop ℚ) → WithBot (WithTop ℚ) → Prop}
    {a b : Word} {p : Prop} [Decidable p] (hp : ¬ IsNaN a → ¬ IsNaN b → (first (ext a) (ext b) ↔ p)) :
    IsMinMax op first a b
      (if isNaN a && isNaN b then nanWord (Config.fminmaxBothNaN op a b)
      else if isNaN a then b
      else if isNaN b then a
      else if oppositeZeros a b then zeroOf (Config.fminmaxZero op a b)
      else if p then a
      else b) := by
  refine ⟨fun ha hb => ?_, fun ha hb => ?_, fun ha hb => ?_, fun ha hb => ⟨fun hz => ?_, fun hz => ?_⟩⟩
  · simp [ha, hb, isNaN_nanWord]
  · simp [ha, hb]
  · simp [ha, hb]
  · simp [ha, hb, oppositeZeros_iff.mpr hz]
  · rw [hp ha hb]
    exact ⟨fun h => by simp [ha, hb, mt oppositeZeros_iff.mp hz, h],
      fun h => by simp [ha, hb, mt oppositeZeros_iff.mp hz, h]⟩

/-! ## Classification (R307) -/

section
variable {a : Word}

theorem classBit_of_isNaN (h : IsNaN a) : classBit a = if a.getLsbD 22 then 9 else 8 := by
  simp [classBit, h]

theorem classBit_of_subnormal (hexp : expOf a = 0) (hfrac : fracOf a ≠ 0) :
    classBit a = if signOf a then 2 else 5 := by
  have hfExp : fExp a = 0 := hexp
  cases hs : signOf a <;> simp [classBit, hfExp, IsNaN, IsInf, IsZero, hexp, hfrac, hs]

theorem classBit_of_normal (hlo : 1 ≤ expOf a) (hhi : expOf a ≤ 254) : classBit a = if signOf a then 1 else 6 := by
  have hfExp : fExp a ≠ 0 := Nat.one_le_iff_ne_zero.mp hlo
  have h0 : expOf a ≠ 0 := hfExp
  have h255 : expOf a ≠ 255 := by omega
  cases hs : signOf a <;> simp [classBit, hfExp, IsNaN, IsInf, IsZero, h0, h255, hs]

theorem fracOf_ne_zero_of_quiet (h : a.getLsbD 22 = true) : fracOf a ≠ 0 := by
  intro h0
  have hbit : (a.extractLsb' 0 23).getLsbD 22 = true := by simpa using h
  rw [BitVec.eq_of_toNat_eq (x := a.extractLsb' 0 23) (y := 0#23) h0] at hbit
  simp at hbit

end

/-! ## The statements -/

/-- Settles O48: the three sign injections are one sign over the first operand's bits, the moves the identity. -/
theorem bitPatternMoves : Obligations.BitPatternMoves := by
  refine ⟨?sgnj, ?sgnjn, ?sgnjx, ?spellsXW, floatToX_of_opXF (fun _ _ _ _ => rfl) fun _ _ => rfl, ?spellsWX,
    xToFloat_of_opFX (fun _ _ _ _ => rfl) fun _ => rfl⟩
  case spellsXW | spellsWX => exact spells_of_opFpSlot rfl (fun _ => rfl) (fun _ => rfl) rfl (by decide)
  all_goals
    refine floatFRule_of_opFF (spells_of_opFpSlot rfl (fun _ => rfl) (fun _ => rfl) rfl (by decide))
      (fun _ _ _ _ => rfl) fun a b => ?_
  · rw [fsgnj, withSign_eq, fSign_eq, ofBool_signOf]
  · rw [fsgnjn, withSign_eq, fSign_eq, ← BitVec.not_ofBool, ofBool_signOf]
  · rw [fsgnjx, withSign_eq, fSign_eq, fSign_eq, ← ofBool_signOf, ← ofBool_signOf, BitVec.ofBool_xor_ofBool]

/-- Settles O49: both are the same choice, FMIN.S by `≤` and FMAX.S by its converse. -/
theorem minimumMaximum : Obligations.MinimumMaximum := by
  constructor
  all_goals
    refine floatFRule_of_opFF (spells_of_opFpSlot rfl (fun _ => rfl) (fun _ => rfl) rfl (by decide))
      (fun _ _ _ _ => rfl) fun a b => isMinMax_of_choice fun ha hb => ?_
  · exact ext_le_ext_iff ha hb
  · exact ext_le_ext_iff hb ha

/-- Settles O52: each comparison is the model's integers' where no operand is a NaN; FCLASS.S is `classBit` by class. -/
theorem compareAndClassify : Obligations.CompareAndClassify := by
  refine ⟨compareRule_of_opXFF ?eq (fun _ _ _ _ => rfl) fEq_iff, compareRule_of_opXFF ?lt (fun _ _ _ _ => rfl) fLt_iff,
    compareRule_of_opXFF ?le (fun _ _ _ _ => rfl) fLe_iff, ?classify,
    floatToX_of_opXF (fun _ _ _ _ => rfl) fun _ a => ?_⟩
  case eq | lt | le | classify => exact spells_of_opFpSlot rfl (fun _ => rfl) (fun _ => rfl) rfl (by decide)
  refine ⟨?negInf, fun hs hlo hhi => ?_, fun hs hexp hfrac => ?_, ?negZero, ?zero, fun hs hexp hfrac => ?_,
    fun hs hlo hhi => ?_, ?inf, fun hexp hfrac hq => ?_, fun hexp hq => ?_⟩
  case negInf | negZero | zero | inf => rintro rfl; rfl
  · rw [fclass, classBit_of_normal hlo hhi, hs]; rfl
  · rw [fclass, classBit_of_subnormal hexp hfrac, hs]; rfl
  · rw [fclass, classBit_of_subnormal hexp hfrac, hs]; rfl
  · rw [fclass, classBit_of_normal hlo hhi, hs]; rfl
  · rw [fclass, classBit_of_isNaN ⟨hexp, hfrac⟩, hq]; rfl
  · rw [fclass, classBit_of_isNaN ⟨hexp, fracOf_ne_zero_of_quiet hq⟩, hq]; rfl

end Sys2Proof.Claims
end

section
/-! SUPPORT. What the exact operations answer, case by case: where the IEEE result is a NaN, an infinity, or a value to
be rounded. Then the statement on NaN results of 45_float.md. -/

namespace Sys2Proof.Claims

open Sys2Proof.Machine

section
variable {m : RoundMode} {a b p q r : Word}

/-! ## NaN results (R281) -/

theorem addResult_eq_none (h : SumIsNaN a b) : addResult m a b = none := by
  obtain ha | hb | ⟨ha, hb, hs⟩ := h
  · simp [addResult, ha]
  · simp [addResult, hb]
  · simp [addResult, ha, hb, hs]

theorem mulResult_eq_none (h : IsNaN a ∨ IsNaN b ∨ (IsZero a ∧ IsInf b) ∨ (IsInf a ∧ IsZero b)) :
    mulResult m a b = none := by
  obtain ha | hb | ⟨ha, hb⟩ | ⟨ha, hb⟩ := h
  · simp [mulResult, ha]
  · simp [mulResult, hb]
  · simp [mulResult, ha, hb]
  · simp [mulResult, ha, hb]

theorem divResult_eq_none (h : IsNaN a ∨ IsNaN b ∨ (IsZero a ∧ IsZero b) ∨ (IsInf a ∧ IsInf b)) :
    divResult m a b = none := by
  obtain ha | hb | ⟨ha, hb⟩ | ⟨ha, hb⟩ := h
  · simp [divResult, ha]
  · simp [divResult, hb]
  · simp [divResult, ha, hb]
  · simp [divResult, ha, hb]

theorem sqrtResult_eq_none (h : IsNaN a ∨ (signOf a = true ∧ ¬ IsZero a)) : sqrtResult m a = none := by
  obtain ha | ⟨hs, hz⟩ := h
  · simp [sqrtResult, ha]
  · simp [sqrtResult, hs, hz]

theorem fmaResult_eq_none (h : FusedIsNaN p q r) : fmaResult m p q r = none := by
  obtain hp | hq | hr | ⟨hp, hq⟩ | ⟨hp, hq⟩ | ⟨hpq, hr, hs⟩ := h
  · simp [fmaResult, hp]
  · simp [fmaResult, hq]
  · simp [fmaResult, hr]
  · simp [fmaResult, hp, hq]
  · simp [fmaResult, hp, hq]
  · simp [fmaResult, hpq, hr, hs.symm]

/-- A result that is none is the open NaN (R281). -/
theorem openNaN_of_none {op : Config.FpOp} {operands : List Word} {res : Option Word} (h : res = none) :
    OpenNaN op operands (orNaN op operands res) := by
  subst h
  exact ⟨isNaN_nanWord _, rfl⟩

/-! ## Infinite operands (R283) -/

theorem addResult_of_isInf_left (h : ¬ SumIsNaN a b) (ha : IsInf a) : addResult m a b = some a := by
  simp only [SumIsNaN, not_or, not_and, not_not] at h
  obtain ⟨hna, hnb, hs⟩ := h
  by_cases hb : IsInf b
  · simp [addResult, hna, hnb, ha, hb, hs ha hb]
  · simp [addResult, hna, hnb, ha, hb]

theorem addResult_of_isInf_right (h : ¬ SumIsNaN a b) (hb : IsInf b) : addResult m a b = some b := by
  by_cases ha : IsInf a
  · have hs : signOf a = signOf b := not_not.mp fun hs => h (.inr (.inr ⟨ha, hb, hs⟩))
    rw [addResult_of_isInf_left h ha, eq_signedInf ha, eq_signedInf hb, hs]
  · simp only [SumIsNaN, not_or] at h
    simp [addResult, h.1, h.2.1, ha, hb]

theorem mulResult_of_isInf (h : ¬ (IsNaN a ∨ IsNaN b ∨ (IsZero a ∧ IsInf b) ∨ (IsInf a ∧ IsZero b)))
    (hab : IsInf a ∨ IsInf b) : mulResult m a b = some (signedInf (signOf a != signOf b)) := by
  simp only [not_or, not_and] at h
  obtain ⟨hna, hnb, hzi, hiz⟩ := h
  obtain ha | hb := hab
  · simp [mulResult, hna, hnb, ha, ha.not_isZero, hiz ha]
  · simp [mulResult, hna, hnb, hb, hb.not_isZero, mt hzi (not_not.mpr hb)]

theorem divResult_of_isInf_left (ha : IsInf a) (hnb : ¬ IsNaN b) (hb : ¬ IsInf b) :
    divResult m a b = some (signedInf (signOf a != signOf b)) := by
  simp [divResult, ha, ha.not_isNaN, ha.not_isZero, hnb, hb]

theorem divResult_of_isZero_right (hb : IsZero b) (hna : ¬ IsNaN a) (ha : ¬ IsZero a) :
    divResult m a b = some (signedInf (signOf a != signOf b)) := by
  simp [divResult, hb, hb.not_isNaN, hb.not_isInf, hna, ha]

theorem divResult_of_isInf_right (ha : IsFinite a) (hb : IsInf b) :
    divResult m a b = some (signedZero (signOf a != signOf b)) := by
  simp [divResult, ha.not_isNaN, ha.not_isInf, hb, hb.not_isNaN, hb.not_isZero]

theorem sqrtResult_of_isZero (h : IsZero a) : sqrtResult m a = some a := by
  simp [sqrtResult, h, h.not_isNaN]

theorem sqrtResult_of_isInf (h : IsInf a) (hs : signOf a = false) : sqrtResult m a = some a := by
  simp [sqrtResult, h, h.not_isNaN, hs]

theorem fmaResult_of_isInf (h : ¬ FusedIsNaN p q r) (hpq : IsInf p ∨ IsInf q) :
    fmaResult m p q r = some (signedInf (signOf p != signOf q)) := by
  simp only [FusedIsNaN, not_or, not_and, not_not] at h
  obtain ⟨hnp, hnq, hnr, hzi, hiz, hs⟩ := h
  have hr : (isInf r && signOf r != (signOf p != signOf q)) = false := by
    by_cases hr : IsInf r
    · simp [hs hpq hr]
    · simp [hr]
  obtain hp | hq := hpq
  · simp [fmaResult, hnp, hnq, hnr, hp, hp.not_isZero, hiz hp, hr]
  · simp [fmaResult, hnp, hnq, hnr, hq, hq.not_isZero, mt hzi (not_not.mpr hq), hr]

theorem fmaResult_of_isInf_addend (hp : IsFinite p) (hq : IsFinite q) (hr : IsInf r) : fmaResult m p q r = some r := by
  simp [fmaResult, hp.not_isNaN, hp.not_isInf, hq.not_isNaN, hq.not_isInf, hr, hr.not_isNaN]

/-! ## Finite operands -/

theorem addResult_of_isFinite (ha : IsFinite a) (hb : IsFinite b) :
    addResult m a b = some (roundSum m (signOf a) (signOf b) (scaled a + scaled b) 1) := by
  simp [addResult, ha.not_isNaN, ha.not_isInf, hb.not_isNaN, hb.not_isInf]

theorem mulResult_of_isFinite (ha : IsFinite a) (hb : IsFinite b) :
    mulResult m a b = some (roundFrac m (signOf a != signOf b) (scaledMag a * scaledMag b) (2 ^ 149)) := by
  simp [mulResult, ha.not_isNaN, ha.not_isInf, hb.not_isNaN, hb.not_isInf]

theorem divResult_of_isFinite (ha : IsFinite a) (hb : IsFinite b) (hz : ¬ IsZero b) :
    divResult m a b = some (roundFrac m (signOf a != signOf b) (scaledMag a * 2 ^ 149) (scaledMag b)) := by
  simp [divResult, ha.not_isNaN, ha.not_isInf, hb.not_isNaN, hb.not_isInf, hz]

theorem sqrtResult_of_isFinite (ha : IsFinite a) (hz : ¬ IsZero a) (hs : signOf a = false) :
    sqrtResult m a = some (roundSqrt m (scaledMag a * 2 ^ 149)) := by
  simp [sqrtResult, ha.not_isNaN, ha.not_isInf, hz, hs]

theorem fmaResult_of_isFinite (hp : IsFinite p) (hq : IsFinite q) (hr : IsFinite r) :
    fmaResult m p q r = some (roundSum m (signOf p != signOf q) (signOf r)
      (scaled p * scaled q + scaled r * 2 ^ 149) (2 ^ 149)) := by
  simp [fmaResult, hp.not_isNaN, hp.not_isInf, hq.not_isNaN, hq.not_isInf, hr.not_isNaN, hr.not_isInf]

end

/-! ## The statement -/

/-- Settles O46: each of the nine is one of five exact operations, which answer none where the IEEE result is a NaN. -/
theorem nanResults : Obligations.NanResults := fun _ _ _ _ =>
  ⟨fun h => openNaN_of_none (addResult_eq_none h), fun h => openNaN_of_none (addResult_eq_none h),
    fun h => openNaN_of_none (mulResult_eq_none h), fun h => openNaN_of_none (divResult_eq_none h),
    fun h => openNaN_of_none (sqrtResult_eq_none h), fun h => openNaN_of_none (fmaResult_eq_none h),
    fun h => openNaN_of_none (fmaResult_eq_none h), fun h => openNaN_of_none (fmaResult_eq_none h),
    fun h => openNaN_of_none (fmaResult_eq_none h)⟩

end Sys2Proof.Claims
end

section
/-! SUPPORT. The model's rounding against the statements' (00_scope.md R16): a real between two magnitudes, given in
units of 2^-149, goes to the one its mode names. Negative values are the mirror image of positive ones. -/

namespace Sys2Proof.Claims

open Sys2Proof.Machine

/-! ## A real between two neighbours -/

/-- Where `x` lies between two neighbours. -/
def Between (x lo hi : ℝ) : Rest → Prop
  | .exact => x = lo
  | .below => lo < x ∧ 2 * x < lo + hi
  | .half => 2 * x = lo + hi
  | .above => lo + hi < 2 * x ∧ x < hi

section
variable {x lo hi c : ℝ} {rest : Rest}

theorem Between.le (h : Between x lo hi rest) (hlt : lo < hi) : lo ≤ x := by
  cases rest <;> simp only [Between] at h <;> linarith

theorem Between.lt (h : Between x lo hi rest) (hlt : lo < hi) : x < hi := by
  cases rest <;> simp only [Between] at h <;> linarith

theorem Between.lt_of_ne_exact (h : Between x lo hi rest) (hlt : lo < hi) (hrest : rest ≠ .exact) : lo < x := by
  cases rest <;> simp only [Between] at h
  · exact absurd rfl hrest
  all_goals linarith

theorem Between.mul_right (h : Between x lo hi rest) (hc : 0 < c) : Between (x * c) (lo * c) (hi * c) rest := by
  cases rest <;> simp only [Between] at h ⊢
  case exact => rw [h]
  case below => constructor <;> nlinarith
  case half => linear_combination c * h
  case above => constructor <;> nlinarith

/-- No value outside the gap is nearer than the lower neighbour up to the middle, and only past the gap, in the middle,
is one as near. -/
theorem abs_sub_lo_le {s : ℝ} (hlo : lo ≤ x) (hmid : 2 * x ≤ lo + hi) (hs : s ≤ lo ∨ hi ≤ s) :
    |x - lo| ≤ |x - s| ∧ (|x - s| = |x - lo| → s = lo ∨ 2 * x = lo + hi) := by
  rw [abs_of_nonneg (sub_nonneg.mpr hlo)]
  obtain hs | hs := hs
  · rw [abs_of_nonneg (by linarith)]
    exact ⟨by linarith, fun h => .inl (by linarith)⟩
  · rw [abs_sub_comm, abs_of_nonneg (by linarith)]
    exact ⟨by linarith, fun h => .inr (by linarith)⟩

/-- The same of the upper neighbour from the middle on: the lower one of the mirror image. -/
theorem abs_sub_hi_le {s : ℝ} (hhi : x ≤ hi) (hmid : lo + hi ≤ 2 * x) (hs : s ≤ lo ∨ hi ≤ s) :
    |x - hi| ≤ |x - s| ∧ (|x - s| = |x - hi| → s = hi ∨ 2 * x = lo + hi) := by
  have h := abs_sub_lo_le (x := -x) (lo := -hi) (hi := -lo) (s := -s) (by linarith) (by linarith)
    (hs.symm.imp neg_le_neg neg_le_neg)
  rw [neg_sub_neg, neg_sub_neg, abs_sub_comm hi, abs_sub_comm s] at h
  exact ⟨h.1, fun he => (h.2 he).imp neg_injective.eq_iff.mp fun h2 => by linarith⟩

/-- The rest of a division says where the dividend lies between two multiples of the divisor. -/
theorem between_restOf (n : Nat) {d : Nat} (hd : 0 < d) :
    Between n ((n / d : ℕ) * d) (((n / d : ℕ) + 1) * d) (restOf (n % d) d) := by
  have hn : (n : ℝ) = (n / d : ℕ) * d + (n % d : ℕ) := by
    rw [mul_comm]
    exact_mod_cast (Nat.div_add_mod n d).symm
  have hlt : ((n % d : ℕ) : ℝ) < d := by exact_mod_cast Nat.mod_lt n hd
  rw [hn]
  generalize n % d = r at hlt ⊢
  unfold restOf
  split_ifs with hexact hbelow hhalf
  · subst hexact
    simp [Between]
  · have hr : (0 : ℝ) < r := by exact_mod_cast Nat.pos_of_ne_zero hexact
    have hr2 : 2 * (r : ℝ) < d := by exact_mod_cast hbelow
    constructor <;> linarith
  · have hr2 : 2 * (r : ℝ) = d := by exact_mod_cast hhalf
    simp only [Between]
    linarith
  · have hr2 : (d : ℝ) < 2 * r := by exact_mod_cast lt_of_le_of_ne (Nat.le_of_not_lt hbelow) (Ne.symm hhalf)
    constructor <;> linarith

end

/-! ## Finite values in units -/

section
variable {x : ℝ} {k : Nat} {sign : Bool} {v w : Word}

/-- One unit, 2^-149. -/
noncomputable def ulp : ℝ := 2 ^ (-149 : ℤ)

theorem ulp_pos : 0 < ulp := by unfold ulp; positivity

theorem cast_val (a : Word) : ((val a : ℚ) : ℝ) = scaled a * ulp := by
  rw [val_eq_scaled, ulp]
  push_cast
  rfl

theorem val_le_val_iff : val v ≤ val w ↔ scaled v ≤ scaled w := by
  rw [← not_lt, val_lt_val_iff, not_lt]

theorem scaled_signMag (hk : k < 2 ^ 31) : scaled (signMag false k) = unitsAt k := by
  rw [scaled_eq, signOf_signMag _ hk, magOf_signMag _ hk]
  rfl

theorem isFinite_signMag (sign : Bool) (hk : k < infMag) : IsFinite (signMag sign k) := by
  have hlt : k < 2 ^ 31 := hk.trans (by decide)
  rw [isFinite_iff_magOf, magOf_signMag _ hlt]
  exact hk

/-- No finite value lies strictly between two neighbouring magnitudes. -/
theorem scaled_le_or_le (v : Word) (k : Nat) : scaled v ≤ unitsAt k ∨ (unitsAt (k + 1) : ℤ) ≤ scaled v := by
  obtain hle | hlt := le_or_gt (magOf v) k
  · left
    calc scaled v ≤ |scaled v| := le_abs_self _
      _ ≤ unitsAt k := by
        rw [abs_scaled]
        exact_mod_cast unitsAt_strictMono.monotone hle
  · have hmono : unitsAt (k + 1) ≤ unitsAt (magOf v) := unitsAt_strictMono.monotone hlt
    rw [scaled_eq]
    cases signOf v
    · right; simpa using hmono
    · left; simp only [if_true]; omega

/-- The largest finite magnitude. -/
theorem scaled_le_max (h : IsFinite v) : scaled v ≤ unitsAt (infMag - 1) :=
  (scaled_le_or_le v (infMag - 1)).resolve_right (not_le.mpr (scaled_bounds h).2)

end

/-! ## Rounding a positive real -/

section
variable {x : ℝ} {k : Nat} {rest : Rest}

theorem packMag_of_lt {m : RoundMode} {sign : Bool} (hk : k < infMag) : packMag m sign k = signMag sign k := by
  have hlt : k < 2 ^ 31 := hk.trans (by decide)
  exact (if_neg (Nat.not_le.mpr hk)).trans (place_sign_or_ofNat sign hlt)

theorem packMag_of_le {m : RoundMode} {sign : Bool} (hk : infMag ≤ k) : packMag m sign k = overflowOf m sign :=
  if_pos hk

/-- Toward zero: the lower neighbour, or the largest finite magnitude. -/
theorem roundsDown_packMag {m : RoundMode} (hm : m = .rtz ∨ m = .rdn) (hlo : unitsAt k ≤ x)
    (hhi : x < unitsAt (k + 1)) : RoundsDown (x * ulp) (packMag m false k) := by
  have hpack : packMag m false k = signMag false (min k (infMag - 1)) := by
    obtain hk | hk := Nat.lt_or_ge k infMag
    · rw [packMag_of_lt hk, min_eq_left (Nat.le_sub_one_of_lt hk)]
    · rw [packMag_of_le hk, min_eq_right ((Nat.sub_le _ _).trans hk)]
      obtain rfl | rfl := hm <;> rfl
  have hmin : min k (infMag - 1) < infMag := (min_le_right _ _).trans_lt (by decide)
  have hscaled : scaled (signMag false (min k (infMag - 1))) = min (unitsAt k : ℤ) (unitsAt (infMag - 1)) := by
    rw [scaled_signMag (hmin.trans (by decide)), unitsAt_strictMono.monotone.map_min, Nat.cast_min]
  rw [hpack]
  refine .inl ⟨isFinite_signMag false hmin, ?_, fun v hv hle => ?_⟩
  · rw [cast_val, mul_le_mul_iff_left₀ ulp_pos, hscaled]
    push_cast
    exact (min_le_left _ _).trans hlo
  · rw [cast_val, mul_le_mul_iff_left₀ ulp_pos] at hle
    rw [val_le_val_iff, hscaled]
    refine le_min ((scaled_le_or_le v k).resolve_right fun h => ?_) (scaled_le_max hv)
    have h' : (unitsAt (k + 1) : ℝ) ≤ scaled v := by exact_mod_cast h
    linarith

/-- Away from zero: a magnitude at or above `x` that no finite value undercuts, or ∞. -/
theorem roundsUp_packMag (hx : x ≤ unitsAt k)
    (hleast : ∀ v, x ≤ (scaled v : ℝ) → (unitsAt k : ℤ) ≤ scaled v) : RoundsUp (x * ulp) (packMag .rup false k) := by
  obtain hk | hk := Nat.lt_or_ge k infMag
  · rw [packMag_of_lt hk]
    have hscaled := scaled_signMag (hk.trans (by decide))
    refine .inl ⟨isFinite_signMag false hk, ?_, fun v _ hle => ?_⟩
    · rw [cast_val, mul_le_mul_iff_left₀ ulp_pos, hscaled]
      exact_mod_cast hx
    · rw [cast_val, mul_le_mul_iff_left₀ ulp_pos] at hle
      rw [val_le_val_iff, hscaled]
      exact hleast v hle
  · rw [packMag_of_le hk]
    refine .inr ⟨rfl, fun v hv => ?_⟩
    rw [cast_val, mul_lt_mul_iff_left₀ ulp_pos]
    refine lt_of_not_ge fun h => ?_
    have hmono : (unitsAt infMag : ℤ) ≤ unitsAt k := by exact_mod_cast unitsAt_strictMono.monotone hk
    linarith [hleast v h, (scaled_bounds hv).2]

/-- The neighbour that a mode takes, of the magnitude `k` and the next one. -/
def takenMag (m : RoundMode) (sign : Bool) (k : Nat) (rest : Rest) : Nat :=
  if roundsUp m sign (k % 2 == 1) rest then k + 1 else k

theorem le_takenMag (m : RoundMode) (sign : Bool) (k : Nat) (rest : Rest) : k ≤ takenMag m sign k rest := by
  unfold takenMag; split <;> omega

theorem takenMag_le (m : RoundMode) (sign : Bool) (k : Nat) (rest : Rest) : takenMag m sign k rest ≤ k + 1 := by
  unfold takenMag; split <;> omega

theorem unitsAt_lt_succ (k : Nat) : (unitsAt k : ℝ) < unitsAt (k + 1) := by
  exact_mod_cast unitsAt_strictMono k.lt_succ_self

/-- RUP takes the lower neighbour where `x` is on it, else the upper one. -/
theorem roundsUp_takenMag (h : Between x (unitsAt k) (unitsAt (k + 1)) rest) :
    RoundsUp (x * ulp) (packMag .rup false (takenMag .rup false k rest)) := by
  have hgap := unitsAt_lt_succ k
  by_cases hexact : rest = .exact
  · subst hexact
    refine roundsUp_packMag (le_of_eq h) fun v hv => ?_
    rw [h] at hv
    exact_mod_cast hv
  · have hup : takenMag .rup false k rest = k + 1 := if_pos (by simpa [roundsUp] using hexact)
    rw [hup]
    refine roundsUp_packMag (h.lt hgap).le fun v hv => (scaled_le_or_le v k).resolve_left fun hle => ?_
    have hle' : (scaled v : ℝ) ≤ unitsAt k := by exact_mod_cast hle
    linarith [h.lt_of_ne_exact hgap hexact]

/-- RNE takes the lower neighbour below the middle, the upper one above it, and in the middle the even one. -/
theorem takenMag_rne (h : Between x (unitsAt k) (unitsAt (k + 1)) rest) :
    (takenMag .rne false k rest = k ∧ (2 * x < unitsAt k + unitsAt (k + 1) ∨
        2 * x = unitsAt k + unitsAt (k + 1) ∧ k % 2 = 0)) ∨
      (takenMag .rne false k rest = k + 1 ∧ (unitsAt k + unitsAt (k + 1) < 2 * x ∨
        2 * x = unitsAt k + unitsAt (k + 1) ∧ k % 2 = 1)) := by
  have hgap := unitsAt_lt_succ k
  cases rest <;> simp only [Between] at h
  case exact => exact .inl ⟨rfl, .inl (by linarith)⟩
  case below => exact .inl ⟨rfl, .inl h.2⟩
  case half =>
    obtain hk | hk := Nat.mod_two_eq_zero_or_one k
    · exact .inl ⟨by simp [takenMag, roundsUp, hk], .inr ⟨h, hk⟩⟩
    · exact .inr ⟨by simp [takenMag, roundsUp, hk], .inr ⟨h, hk⟩⟩
  case above => exact .inr ⟨rfl, .inl h.1⟩

/-- No finite value is nearer than the one RNE takes, and another one is as near only if the taken one is even. -/
theorem nearest_takenMag (h : Between x (unitsAt k) (unitsAt (k + 1)) rest) (v : Word) :
    |x - unitsAt (takenMag .rne false k rest)| ≤ |x - scaled v| ∧
      (|x - scaled v| = |x - unitsAt (takenMag .rne false k rest)| →
        (scaled v : ℝ) = unitsAt (takenMag .rne false k rest) ∨ takenMag .rne false k rest % 2 = 0) := by
  have hgap := unitsAt_lt_succ k
  have hv : (scaled v : ℝ) ≤ unitsAt k ∨ (unitsAt (k + 1) : ℝ) ≤ scaled v := by exact_mod_cast scaled_le_or_le v k
  obtain ⟨htaken, hmid⟩ | ⟨htaken, hmid⟩ := takenMag_rne h <;> rw [htaken]
  · obtain ⟨hnear, htie⟩ := abs_sub_lo_le (h.le hgap) (hmid.elim le_of_lt fun h => h.1.le) hv
    refine ⟨hnear, fun he => (htie he).imp_right fun heq => ?_⟩
    exact (hmid.resolve_left heq.not_lt).2
  · obtain ⟨hnear, htie⟩ := abs_sub_hi_le (h.lt hgap).le (hmid.elim le_of_lt fun h => h.1.ge) hv
    refine ⟨hnear, fun he => (htie he).imp_right fun heq => ?_⟩
    have hodd := (hmid.resolve_left heq.not_gt).2
    omega

/-- The overflow bound of the statement is the middle between the largest finite magnitude and that of ∞. -/
theorem overflow_eq : (2 ^ 128 - 2 ^ 103 : ℝ) = (unitsAt (infMag - 1) + unitsAt infMag : ℝ) / 2 * ulp := by
  have hmax : unitsAt (infMag - 1) = (2 ^ 24 - 1) * 2 ^ 253 :=
    unitsAt_spacing (q := 253) (t := 2 ^ 24 - 1) (by decide) (by decide)
  have hinf : unitsAt infMag = 2 ^ 24 * 2 ^ 253 := by
    rw [show infMag = 253 * 2 ^ 23 + 2 ^ 24 from rfl, unitsAt_spacing (by decide) (by decide)]
  rw [hmax, hinf, ulp]
  push_cast
  norm_num

/-- RNE reaches the magnitude of ∞ exactly from that middle on: the largest finite magnitude is odd. -/
theorem infMag_le_takenMag_iff (h : Between x (unitsAt k) (unitsAt (k + 1)) rest) :
    infMag ≤ takenMag .rne false k rest ↔ (unitsAt (infMag - 1) + unitsAt infMag : ℝ) / 2 ≤ x := by
  have hlo := h.le (unitsAt_lt_succ k)
  have hhi := h.lt (unitsAt_lt_succ k)
  have hmono {i j : Nat} (hij : i ≤ j) : (unitsAt i : ℝ) ≤ unitsAt j := by
    exact_mod_cast unitsAt_strictMono.monotone hij
  have hinf := hmono (Nat.sub_le infMag 1)
  obtain hk | hk | hk := Nat.lt_trichotomy (k + 1) infMag
  · have hk1 := hmono (Nat.le_sub_one_of_lt hk)
    exact iff_of_false (by have := takenMag_le .rne false k rest; omega) (by linarith)
  · have hodd : k % 2 = 1 := by rw [infMag] at hk; omega
    rw [← hk, Nat.add_sub_cancel]
    obtain ⟨htaken, hmid⟩ | ⟨htaken, hmid⟩ := takenMag_rne h <;> rw [htaken]
    · have hlt := hmid.resolve_right fun h => by omega
      exact iff_of_false (by omega) (by linarith)
    · exact iff_of_true le_rfl (by linarith [hmid.elim le_of_lt fun h => h.1.ge])
  · have hk1 := hmono (Nat.le_of_lt_succ hk)
    exact iff_of_true ((Nat.le_of_lt_succ hk).trans (le_takenMag ..)) (by linarith)

theorem getLsbD_zero_signMag (sign : Bool) (hk : k < 2 ^ 31) : (signMag sign k).getLsbD 0 = decide (k % 2 = 1) := by
  rw [← BitVec.testBit_toNat, Nat.testBit_zero, toNat_signMag sign hk]
  exact decide_eq_decide.mpr (by omega)

theorem abs_sub_val (x : ℝ) (v : Word) : |x * ulp - (val v : ℝ)| = |x - scaled v| * ulp := by
  rw [cast_val, ← sub_mul, abs_mul, abs_of_pos ulp_pos]

theorem roundsNearest_takenMag (hx : 0 < x) (h : Between x (unitsAt k) (unitsAt (k + 1)) rest) :
    RoundsNearest (x * ulp) (packMag .rne false (takenMag .rne false k rest)) := by
  have hover : (2 ^ 128 - 2 ^ 103 : ℝ) ≤ |x * ulp| ↔ infMag ≤ takenMag .rne false k rest := by
    rw [infMag_le_takenMag_iff h, overflow_eq, abs_of_pos (mul_pos hx ulp_pos), mul_le_mul_iff_left₀ ulp_pos]
  refine ⟨fun hle => ?_, fun hlt => ?_⟩
  · rw [packMag_of_le (hover.mp hle)]
    exact ⟨rfl, rfl⟩
  · have hfin : takenMag .rne false k rest < infMag := not_le.mp (mt hover.mpr (not_le.mpr hlt))
    have hlt31 : takenMag .rne false k rest < 2 ^ 31 := hfin.trans (by decide)
    have hscaled := scaled_signMag hlt31
    rw [packMag_of_lt hfin]
    refine ⟨isFinite_signMag false hfin, fun v _ => ?_, fun v _ hne heq => ?_⟩
    · rw [abs_sub_val, abs_sub_val, mul_le_mul_iff_left₀ ulp_pos, hscaled]
      exact (nearest_takenMag h v).1
    · rw [abs_sub_val, abs_sub_val, mul_left_inj' ulp_pos.ne', hscaled] at heq
      obtain hsame | heven := (nearest_takenMag h v).2 heq
      · have hsame' : scaled v = unitsAt (takenMag .rne false k rest) := by exact_mod_cast hsame
        exact absurd (by rw [val_eq_scaled, val_eq_scaled, hscaled, hsame']) hne
      · rw [getLsbD_zero_signMag false hlt31, heven]
        rfl

end

/-! ## The mirror image -/

/-- The mode that rounds `-r` where `m` rounds `r`: RDN and RUP change places. -/
def mirror : RoundMode → RoundMode
  | .rdn => .rup
  | .rup => .rdn
  | .rne => .rne
  | .rtz => .rtz

section
variable {r : ℝ} {m : RoundMode} {w : Word}

theorem isFinite_negated : IsFinite (negated w) ↔ IsFinite w := by
  rw [isFinite_iff_magOf, isFinite_iff_magOf, magOf_negated]

theorem isInf_negated : IsInf (negated w) ↔ IsInf w := by
  rw [isInf_iff_magOf, isInf_iff_magOf, magOf_negated]

theorem negated_negated (w : Word) : negated (negated w) = w := by
  rw [negated, negated, BitVec.xor_assoc, BitVec.xor_self, BitVec.xor_zero]

theorem val_negated (w : Word) : val (negated w) = -val w := by
  rw [val_eq_scaled, val_eq_scaled, scaled_negated]
  push_cast
  ring

theorem negated_signedInf (sign : Bool) : negated (signedInf sign) = signedInf (!sign) := by cases sign <;> rfl

/-- A statement on every finite value may as well speak of their negations. -/
theorem forall_isFinite_iff {P : Word → Prop} :
    (∀ v, IsFinite v → P v) ↔ ∀ v, IsFinite v → P (negated v) := by
  refine ⟨fun h v hv => h _ (isFinite_negated.mpr hv), fun h v hv => ?_⟩
  rw [← negated_negated v]
  exact h _ (isFinite_negated.mpr hv)

theorem negated_eq_signedInf_iff {sign : Bool} : negated w = signedInf sign ↔ w = signedInf (!sign) := by
  constructor
  · intro h
    rw [← negated_negated w, h, negated_signedInf]
  · rintro rfl
    rw [negated_signedInf, Bool.not_not]

theorem roundsUp_neg_iff : RoundsUp (-r) (negated w) ↔ RoundsDown r w := by
  rw [RoundsUp, forall_isFinite_iff, forall_isFinite_iff (P := fun v => (val v : ℝ) < -r)]
  simp only [isFinite_negated, val_negated, Rat.cast_neg, neg_le_neg_iff, neg_lt_neg_iff, negated_eq_signedInf_iff,
    Bool.not_false, RoundsDown]

theorem roundsDown_neg_iff : RoundsDown (-r) (negated w) ↔ RoundsUp r w := by
  rw [← roundsUp_neg_iff, neg_neg, negated_negated]

theorem abs_neg_sub_val_negated (v : Word) : |-r - (val (negated v) : ℝ)| = |r - (val v : ℝ)| := by
  rw [val_negated]
  push_cast
  rw [← neg_sub', abs_neg]

theorem RoundsNearest.neg (h : RoundsNearest r w) : RoundsNearest (-r) (negated w) := by
  obtain ⟨hinf, hfin⟩ := h
  rw [RoundsNearest, abs_neg]
  refine ⟨fun hle => isInf_negated.mpr (hinf hle), fun hlt => ?_⟩
  obtain ⟨hw, hnear, htie⟩ := hfin hlt
  refine ⟨isFinite_negated.mpr hw, forall_isFinite_iff.mpr fun v hv => ?_, forall_isFinite_iff.mpr fun v hv => ?_⟩
  · rw [abs_neg_sub_val_negated, abs_neg_sub_val_negated]
    exact hnear v hv
  · rw [abs_neg_sub_val_negated, abs_neg_sub_val_negated, val_negated, val_negated, ne_eq, neg_inj]
    intro hne heq
    have hbit : (negated w).getLsbD 0 = w.getLsbD 0 := by simp [negated]
    rw [hbit]
    exact htie v hv hne heq

theorem RoundsTo.neg (hr : r ≠ 0) (h : RoundsTo m r w) : RoundsTo (mirror m) (-r) (negated w) := by
  obtain ⟨hsign, hround⟩ := h
  constructor
  · rw [signOf_negated, Bool.not_eq_true', ← Bool.not_eq_true, hsign, neg_lt_zero, not_lt]
    exact ⟨fun h => lt_of_le_of_ne h hr.symm, le_of_lt⟩
  · cases m with
    | rne => exact RoundsNearest.neg hround
    | rtz =>
      exact ⟨fun h => roundsDown_neg_iff.mpr (hround.2 (neg_pos.mp h)),
        fun h => roundsUp_neg_iff.mpr (hround.1 (neg_lt_zero.mp h))⟩
    | rdn => exact roundsUp_neg_iff.mpr hround
    | rup => exact roundsDown_neg_iff.mpr hround

theorem packMag_true (m : RoundMode) (k : Nat) : packMag m true k = negated (packMag (mirror m) false k) := by
  obtain hk | hk := Nat.lt_or_ge k infMag
  · rw [packMag_of_lt hk, packMag_of_lt hk, negated_signMag]
    rfl
  · rw [packMag_of_le hk, packMag_of_le hk]
    cases m <;> rfl

theorem takenMag_true (m : RoundMode) (k : Nat) (rest : Rest) :
    takenMag m true k rest = takenMag (mirror m) false k rest := by
  cases m <;> rfl

theorem mirror_mirror (m : RoundMode) : mirror (mirror m) = m := by cases m <;> rfl

end

/-! ## Rounding -/

/-- The factor of a sign. -/
def signFactor (sign : Bool) : ℤ := if sign then -1 else 1

theorem signFactor_false : (signFactor false : ℝ) = 1 := by simp [signFactor]

theorem signFactor_true : (signFactor true : ℝ) = -1 := by simp [signFactor]

theorem signFactor_ne_zero (sign : Bool) : (signFactor sign : ℝ) ≠ 0 := by
  cases sign <;> simp [signFactor]

theorem signFactor_bne (s t : Bool) : (signFactor (s != t) : ℝ) = signFactor s * signFactor t := by
  cases s <;> cases t <;> simp [signFactor]

theorem inv_signFactor (s : Bool) : (signFactor s : ℝ)⁻¹ = signFactor s := by
  cases s <;> simp [signFactor]

/-- A number is its sign's factor times its magnitude. -/
theorem signFactor_mul_natAbs (z : ℤ) : (signFactor (decide (z < 0)) : ℝ) * z.natAbs = z := by
  rw [Nat.cast_natAbs, Int.cast_abs]
  obtain hneg | hpos := lt_or_ge z 0
  · have hneg' : (z : ℝ) < 0 := by exact_mod_cast hneg
    simp [signFactor, hneg, abs_of_neg hneg']
  · have hpos' : (0 : ℝ) ≤ z := by exact_mod_cast hpos
    simp [signFactor, hpos.not_gt, abs_of_nonneg hpos']

theorem signOf_packMag_false (m : RoundMode) (k : Nat) : signOf (packMag m false k) = false := by
  obtain hk | hk := Nat.lt_or_ge k infMag
  · rw [packMag_of_lt hk, signOf_signMag _ (hk.trans (by decide))]
  · rw [packMag_of_le hk]
    cases m <;> rfl

section
variable {x : ℝ} {k : Nat} {rest : Rest}

theorem roundsTo_takenMag_of_pos (m : RoundMode) (hx : 0 < x) (h : Between x (unitsAt k) (unitsAt (k + 1)) rest) :
    RoundsTo m (x * ulp) (packMag m false (takenMag m false k rest)) := by
  have hpos : 0 < x * ulp := mul_pos hx ulp_pos
  have hlo := h.le (unitsAt_lt_succ k)
  have hhi := h.lt (unitsAt_lt_succ k)
  refine ⟨by simp [signOf_packMag_false, hpos.le], ?_⟩
  cases m with
  | rne => exact roundsNearest_takenMag hx h
  | rtz => exact ⟨fun _ => roundsDown_packMag (.inl rfl) hlo hhi, fun hneg => absurd hneg hpos.not_gt⟩
  | rdn => exact roundsDown_packMag (.inr rfl) hlo hhi
  | rup => exact roundsUp_takenMag h

/-- The model's rounding is the statement's: a negative real is the mirror image of a positive one. -/
theorem roundsTo_takenMag (m : RoundMode) (sign : Bool) (hx : 0 < x)
    (h : Between x (unitsAt k) (unitsAt (k + 1)) rest) :
    RoundsTo m (signFactor sign * (x * ulp)) (packMag m sign (takenMag m sign k rest)) := by
  cases sign
  · rw [signFactor_false, one_mul]
    exact roundsTo_takenMag_of_pos m hx h
  · have hneg := (roundsTo_takenMag_of_pos (mirror m) hx h).neg (mul_pos hx ulp_pos).ne'
    rw [mirror_mirror, ← takenMag_true, ← packMag_true] at hneg
    rwa [signFactor_true, neg_one_mul]

end

end Sys2Proof.Claims
end

section
/-! SUPPORT. The model's exact fractions, sums and roots, placed between two magnitudes and rounded once; each operation
against the IEEE result. Then the statements of 45_float.md on arithmetic. -/

namespace Sys2Proof.Claims

open Sys2Proof.Machine

/-! ## Multiples of the spacing -/

/-- The spacing leaves 24 bits at most, and exactly 24 above the lowest one (R16, gradual underflow). -/
theorem spacing_spec (w : Nat) : w / 2 ^ spacing w < 2 ^ 24 ∧ (spacing w = 0 ∨ 2 ^ 23 ≤ w / 2 ^ spacing w) := by
  have hlt : w < 2 ^ (w.log2 + 1) := Nat.lt_log2_self
  obtain hsmall | hlarge := Nat.le_total w.log2 23
  · have hq : spacing w = 0 := Nat.sub_eq_zero_of_le hsmall
    have hpow : 2 ^ (w.log2 + 1) ≤ 2 ^ 24 := Nat.pow_le_pow_right (by decide) (by omega)
    rw [hq, pow_zero, Nat.div_one]
    exact ⟨hlt.trans_le hpow, .inl rfl⟩
  · have hlog : w.log2 = 23 + spacing w := by unfold spacing; omega
    have hne : w ≠ 0 := by rintro rfl; simp at hlarge
    have hle : 2 ^ w.log2 ≤ w := Nat.log2_self_le hne
    rw [Nat.div_lt_iff_lt_mul (by positivity), Nat.le_div_iff_mul_le (by positivity), ← pow_add, ← pow_add]
    rw [hlog] at hlt hle
    exact ⟨by rwa [show 24 + spacing w = 23 + spacing w + 1 by omega], .inr hle⟩

/-- A real between two multiples of the spacing rounds to the multiple that the mode takes. -/
theorem roundsTo_of_spacing {x : ℝ} {w : Nat} {rest : Rest} (m : RoundMode) (sign : Bool) (hx : 0 < x)
    (h : Between x ((w / 2 ^ spacing w : ℕ) * 2 ^ spacing w) (((w / 2 ^ spacing w : ℕ) + 1) * 2 ^ spacing w) rest) :
    RoundsTo m (signFactor sign * (x * ulp)) (packMag m sign (spacing w * 2 ^ 23 +
      if roundsUp m sign (w / 2 ^ spacing w % 2 == 1) rest then w / 2 ^ spacing w + 1 else w / 2 ^ spacing w)) := by
  obtain ⟨ht, hq⟩ := spacing_spec w
  generalize spacing w = q at *
  generalize w / 2 ^ q = t at *
  have hlo : unitsAt (q * 2 ^ 23 + t) = t * 2 ^ q := unitsAt_spacing ht.le hq
  have hhi : unitsAt (q * 2 ^ 23 + t + 1) = (t + 1) * 2 ^ q := by
    rw [add_assoc, unitsAt_spacing (Nat.succ_le_of_lt ht) (hq.imp_right Nat.le_succ_of_le)]
  have htaken : takenMag m sign (q * 2 ^ 23 + t) rest =
      q * 2 ^ 23 + if roundsUp m sign (t % 2 == 1) rest then t + 1 else t := by
    rw [takenMag, show (q * 2 ^ 23 + t) % 2 = t % 2 by omega]
    split <;> omega
  rw [← htaken]
  refine roundsTo_takenMag m sign hx ?_
  rw [hlo, hhi]
  exact_mod_cast h

/-- `roundFrac` rounds n/d units once (R16). -/
theorem roundsTo_roundFrac (m : RoundMode) (sign : Bool) {n d : Nat} (hn : 0 < n) (hd : 0 < d) :
    RoundsTo m (signFactor sign * ((n / d : ℝ) * ulp)) (roundFrac m sign n d) := by
  have hn' : (0 : ℝ) < n := by exact_mod_cast hn
  have hd' : (0 : ℝ) < d := by exact_mod_cast hd
  have ht : n / (d * 2 ^ spacing (n / d)) = n / d / 2 ^ spacing (n / d) := (Nat.div_div_eq_div_mul ..).symm
  have hscale : ((d * 2 ^ spacing (n / d) : ℕ) : ℝ) * (d : ℝ)⁻¹ = 2 ^ spacing (n / d) := by
    push_cast
    field_simp
  have hbetween := (between_restOf n (d := d * 2 ^ spacing (n / d)) (by positivity)).mul_right (inv_pos.mpr hd')
  rw [mul_assoc, mul_assoc, hscale, ht, ← div_eq_mul_inv] at hbetween
  rw [roundFrac, ht]
  exact roundsTo_of_spacing m sign (div_pos hn' hd') hbetween

/-- A zero product or quotient keeps its sign in every mode (R283). -/
theorem roundFrac_zero (m : RoundMode) (sign : Bool) (d : Nat) : roundFrac m sign 0 d = signedZero sign := by
  have hpack : roundFrac m sign 0 d = packMag m sign 0 := by
    cases m <;> simp [roundFrac, spacing, restOf, roundsUp]
  rw [hpack, packMag_of_lt (by decide), signedZero_eq]

/-- A product or quotient `y` of n/d units: the signed zero where it is 0, else rounded once. -/
theorem roundFrac_spec {y : ℚ} {sign : Bool} {n d : Nat} (m : RoundMode) (hd : 0 < d)
    (hy : (y : ℝ) = signFactor sign * ((n / d : ℝ) * ulp)) :
    (y = 0 → roundFrac m sign n d = signedZero sign) ∧ (y ≠ 0 → RoundsTo m (y : ℝ) (roundFrac m sign n d)) := by
  have hd' : (d : ℝ) ≠ 0 := by exact_mod_cast hd.ne'
  have hzero : y = 0 ↔ n = 0 := by
    rw [← Rat.cast_eq_zero (α := ℝ), hy, mul_eq_zero_iff_left (signFactor_ne_zero sign),
      mul_eq_zero_iff_right ulp_pos.ne', div_eq_zero_iff, or_iff_left hd', Nat.cast_eq_zero]
  rw [ne_eq, hzero]
  refine ⟨fun hn => ?_, fun hn => ?_⟩
  · rw [hn, roundFrac_zero]
  · rw [hy]
    exact roundsTo_roundFrac m sign (Nat.pos_of_ne_zero hn) hd

/-! ## Sums (R283) -/

theorem isZeroSum_roundSum (m : RoundMode) (sa sb : Bool) (d : Nat) : IsZeroSum m sa sb (roundSum m sa sb 0 d) := by
  rw [roundSum, if_pos rfl, zeroOf_eq, zeroSumSign]
  refine ⟨fun hs => ?_, fun hs hm => ?_, fun hs hm => ?_⟩
  · rw [if_pos hs]
  · rw [if_neg hs, decide_eq_false hm]
  · rw [if_neg hs, decide_eq_true hm]

theorem roundsTo_roundSum (m : RoundMode) (sa sb : Bool) {sum : ℤ} {d : Nat} (hsum : sum ≠ 0) (hd : 0 < d) :
    RoundsTo m ((sum / d : ℝ) * ulp) (roundSum m sa sb sum d) := by
  have hround := roundsTo_roundFrac m (decide (sum < 0)) (Int.natAbs_pos.mpr hsum) hd
  rw [← mul_assoc, mul_div_assoc', signFactor_mul_natAbs] at hround
  rwa [roundSum, if_neg hsum]

/-- A sum `y` of sum/d units: the signed zero of a zero sum where it is 0, else rounded once. -/
theorem roundSum_spec {y : ℚ} {sum : ℤ} {d : Nat} (m : RoundMode) (sa sb : Bool) (hd : 0 < d)
    (hy : (y : ℝ) = (sum / d : ℝ) * ulp) :
    (y = 0 → IsZeroSum m sa sb (roundSum m sa sb sum d)) ∧ (y ≠ 0 → RoundsTo m (y : ℝ) (roundSum m sa sb sum d)) := by
  have hd' : (d : ℝ) ≠ 0 := by exact_mod_cast hd.ne'
  have hzero : y = 0 ↔ sum = 0 := by
    rw [← Rat.cast_eq_zero (α := ℝ), hy, mul_eq_zero_iff_right ulp_pos.ne', div_eq_zero_iff, or_iff_left hd',
      Int.cast_eq_zero]
  rw [ne_eq, hzero]
  refine ⟨fun hsum => ?_, fun hsum => ?_⟩
  · rw [hsum]
    exact isZeroSum_roundSum ..
  · rw [hy]
    exact roundsTo_roundSum m sa sb hsum hd

/-! ## Roots -/

/-- Each pass keeps the root between the accumulator and the next multiple of the bit it tries. -/
theorem isqrtFrom_spec (n : Nat) : ∀ bits acc, acc * acc ≤ n → n < (acc + 2 ^ bits) * (acc + 2 ^ bits) →
    isqrtFrom n bits acc * isqrtFrom n bits acc ≤ n ∧ n < (isqrtFrom n bits acc + 1) * (isqrtFrom n bits acc + 1)
  | 0, _, hle, hlt => ⟨hle, hlt⟩
  | bits + 1, acc, hle, hlt => by
    rw [isqrtFrom]
    split
    · next hbit =>
      refine isqrtFrom_spec n bits _ hbit ?_
      rwa [add_assoc, ← two_mul, ← pow_succ']
    · next hbit => exact isqrtFrom_spec n bits acc hle (not_le.mp hbit)

theorem isqrt_spec {n : Nat} (h : n < 4 ^ 214) : isqrt n * isqrt n ≤ n ∧ n < (isqrt n + 1) * (isqrt n + 1) := by
  refine isqrtFrom_spec n 214 0 n.zero_le ?_
  rwa [zero_add, ← mul_pow]

/-- The model's rest of a root over `t` steps, by comparing squares. -/
def sqrtRest (v t step : Nat) : Rest :=
  if t * step * (t * step) = v then .exact
  else if 4 * v < (2 * t + 1) * step * ((2 * t + 1) * step) then .below
  else if 4 * v = (2 * t + 1) * step * ((2 * t + 1) * step) then .half
  else .above

theorem between_sqrtRest {v t step : Nat} (hlo : t * step * (t * step) ≤ v)
    (hhi : v < (t + 1) * step * ((t + 1) * step)) : Between (√v) (t * step) ((t + 1) * step) (sqrtRest v t step) := by
  have hx : 0 ≤ √(v : ℝ) := Real.sqrt_nonneg _
  have hsq : √(v : ℝ) * √v = v := Real.mul_self_sqrt (Nat.cast_nonneg v)
  have hsq4 : 2 * √(v : ℝ) * (2 * √v) = 4 * v := by linear_combination 4 * hsq
  have hmid : (t * step + (t + 1) * step : ℝ) = (2 * t + 1) * step := by ring
  unfold sqrtRest
  split_ifs with hexact hbelow hhalf
  · have h : (t * step * (t * step) : ℝ) = v := by exact_mod_cast hexact
    exact (mul_self_inj hx (by positivity)).mp (hsq.trans h.symm)
  · have h1 : (t * step * (t * step) : ℝ) < v := by exact_mod_cast lt_of_le_of_ne hlo hexact
    have h2 : (4 * v : ℝ) < (2 * t + 1) * step * ((2 * t + 1) * step) := by exact_mod_cast hbelow
    refine ⟨lt_of_mul_self_lt_mul_self₀ hx (by rwa [hsq]), ?_⟩
    rw [hmid]
    exact lt_of_mul_self_lt_mul_self₀ (by positivity) (by rwa [hsq4])
  · have h : (4 * v : ℝ) = (2 * t + 1) * step * ((2 * t + 1) * step) := by exact_mod_cast hhalf
    simp only [Between, hmid]
    exact (mul_self_inj (by positivity) (by positivity)).mp (hsq4.trans h)
  · have h1 : ((2 * t + 1) * step * ((2 * t + 1) * step) : ℝ) < 4 * v := by
      exact_mod_cast lt_of_le_of_ne (not_lt.mp hbelow) (Ne.symm hhalf)
    have h2 : (v : ℝ) < (t + 1) * step * ((t + 1) * step) := by exact_mod_cast hhi
    refine ⟨?_, lt_of_mul_self_lt_mul_self₀ (by positivity) (by rwa [hsq])⟩
    rw [hmid]
    exact lt_of_mul_self_lt_mul_self₀ (by positivity) (by rwa [hsq4])

/-- `roundSqrt` rounds the root of `v` once (R288). -/
theorem roundsTo_roundSqrt (m : RoundMode) {v : Nat} (hv : 0 < v) (hlt : v < 4 ^ 214) :
    RoundsTo m (√v * ulp) (roundSqrt m v) := by
  obtain ⟨hle, hlt'⟩ := isqrt_spec hlt
  have hlower : isqrt v / 2 ^ spacing (isqrt v) * 2 ^ spacing (isqrt v) ≤ isqrt v := Nat.div_mul_le_self _ _
  have hupper : isqrt v + 1 ≤ (isqrt v / 2 ^ spacing (isqrt v) + 1) * 2 ^ spacing (isqrt v) :=
    Nat.lt_mul_of_div_lt (Nat.lt_succ_self _) (by positivity)
  have hbetween := between_sqrtRest ((Nat.mul_self_le_mul_self hlower).trans hle)
    (hlt'.trans_le (Nat.mul_self_le_mul_self hupper))
  push_cast at hbetween
  have hround := roundsTo_of_spacing m false (Real.sqrt_pos.mpr (by exact_mod_cast hv)) hbetween
  rw [signFactor_false, one_mul] at hround
  exact hround

/-! ## Exact results in units -/

section
variable {a b p q r : Word}

theorem inv_two_pow : ((2 : ℝ) ^ 149)⁻¹ = ulp := by
  rw [ulp, zpow_neg]
  rfl

theorem two_pow_mul_ulp : (2 : ℝ) ^ 149 * ulp = 1 := by
  rw [← inv_two_pow, mul_inv_cancel₀ (by positivity)]

theorem cast_val_eq_scaledMag (a : Word) : ((val a : ℚ) : ℝ) = signFactor (signOf a) * (scaledMag a * ulp) := by
  rw [cast_val, scaled, fSign_eq]
  cases signOf a <;> simp [signFactor]

theorem val_eq_zero_iff : val a = 0 ↔ IsZero a := by
  rw [val_eq_scaled, mul_eq_zero_iff_right (by positivity), Int.cast_eq_zero, scaled_eq_zero_iff]

theorem scaledMag_eq_zero_iff : scaledMag a = 0 ↔ IsZero a := by
  rw [scaledMag_eq, unitsAt_strictMono.injective.eq_iff' (show unitsAt 0 = 0 from rfl), isZero_iff_magOf]

theorem cast_val_add_val (a b : Word) :
    ((val a + val b : ℚ) : ℝ) = ((scaled a + scaled b : ℤ) / (1 : ℕ) : ℝ) * ulp := by
  rw [Rat.cast_add, cast_val, cast_val, Nat.cast_one, div_one, Int.cast_add, add_mul]

theorem cast_val_mul_val (a b : Word) : ((val a * val b : ℚ) : ℝ) =
    signFactor (signOf a != signOf b) * (((scaledMag a * scaledMag b : ℕ) / (2 ^ 149 : ℕ) : ℝ) * ulp) := by
  rw [Rat.cast_mul, Nat.cast_mul, Nat.cast_pow, Nat.cast_ofNat, signFactor_bne, cast_val_eq_scaledMag,
    cast_val_eq_scaledMag, div_eq_mul_inv, inv_two_pow]
  ring

theorem cast_val_div_val (a b : Word) : ((val a / val b : ℚ) : ℝ) =
    signFactor (signOf a != signOf b) * (((scaledMag a * 2 ^ 149 : ℕ) / (scaledMag b : ℕ) : ℝ) * ulp) := by
  rw [Rat.cast_div, Nat.cast_mul, Nat.cast_pow, Nat.cast_ofNat, signFactor_bne, cast_val_eq_scaledMag,
    cast_val_eq_scaledMag, div_eq_mul_inv, mul_inv, inv_signFactor, mul_inv, ← inv_two_pow, inv_inv]
  field_simp

theorem sqrt_val (hs : signOf a = false) :
    √((val a : ℚ) : ℝ) = √(scaledMag a * 2 ^ 149 : ℕ) * ulp := by
  have hval : ((val a : ℚ) : ℝ) = (scaledMag a * 2 ^ 149 : ℕ) * (ulp * ulp) := by
    rw [cast_val_eq_scaledMag, hs, signFactor_false]
    push_cast
    linear_combination (-(scaledMag a * ulp : ℝ)) * two_pow_mul_ulp
  rw [hval, Real.sqrt_mul (Nat.cast_nonneg _), Real.sqrt_mul_self ulp_pos.le]

theorem cast_val_mul_val_add_val (p q r : Word) : ((val p * val q + val r : ℚ) : ℝ) =
    ((scaled p * scaled q + scaled r * 2 ^ 149 : ℤ) / (2 ^ 149 : ℕ) : ℝ) * ulp := by
  rw [Rat.cast_add, Rat.cast_mul, cast_val, cast_val, cast_val, Int.cast_add, Int.cast_mul, Int.cast_mul, Int.cast_pow,
    Int.cast_ofNat, Nat.cast_pow, Nat.cast_ofNat, div_eq_mul_inv, inv_two_pow]
  linear_combination (-(scaled r * ulp : ℝ)) * two_pow_mul_ulp

end

/-! ## The operations against IEEE -/

section
variable {m : RoundMode} {op : Config.FpOp} {operands : List Word}

theorem orNaN_some (v : Word) : orNaN op operands (some v) = v := rfl

theorem isSum_addResult (a b : Word) : IsSum op operands m a b (orNaN op operands (addResult m a b)) := by
  refine ⟨fun h => openNaN_of_none (addResult_eq_none h), fun h => ⟨fun ha => ?_, fun hb => ?_, fun ha hb => ?_⟩⟩
  · rw [addResult_of_isInf_left h ha, orNaN_some]
  · rw [addResult_of_isInf_right h hb, orNaN_some]
  · rw [addResult_of_isFinite ha hb, orNaN_some]
    exact roundSum_spec m _ _ Nat.one_pos (cast_val_add_val a b)

theorem isProduct_mulResult (a b : Word) : IsProduct m a b (orNaN .fmul [a, b] (mulResult m a b)) := by
  refine ⟨fun h => openNaN_of_none (mulResult_eq_none h), fun h => ⟨fun hinf => ?_, fun ha hb => ?_⟩⟩
  · rw [mulResult_of_isInf h hinf, orNaN_some]
  · rw [mulResult_of_isFinite ha hb, orNaN_some]
    exact roundFrac_spec m (Nat.two_pow_pos _) (cast_val_mul_val a b)

theorem isQuotient_divResult (a b : Word) : IsQuotient m a b (orNaN .fdiv [a, b] (divResult m a b)) := by
  refine ⟨fun h => openNaN_of_none (divResult_eq_none h), fun h => ?_⟩
  simp only [not_or, not_and] at h
  obtain ⟨-, hnb, hzz, hii⟩ := h
  refine ⟨fun ha _ => ?_, fun ha hb => ?_, fun ha hb => ?_, fun ha hb hne => ?_⟩
  · rw [divResult_of_isInf_left ha hnb (hii ha), orNaN_some]
  · rw [divResult_of_isZero_right hb ha.not_isNaN fun hz => hzz hz hb, orNaN_some]
  · rw [divResult_of_isInf_right ha hb, orNaN_some]
  · have hzb : ¬ IsZero b := mt val_eq_zero_iff.mpr hne
    have hzero : val a = 0 ↔ val a / val b = 0 := by rw [div_eq_zero_iff, or_iff_left hne]
    rw [divResult_of_isFinite ha hb hzb, orNaN_some, ne_eq (val a), hzero]
    exact roundFrac_spec m (Nat.pos_of_ne_zero (mt scaledMag_eq_zero_iff.mp hzb)) (cast_val_div_val a b)

theorem scaledMag_mul_lt {a : Word} (h : IsFinite a) : scaledMag a * 2 ^ 149 < 4 ^ 214 := by
  have hlt : scaledMag a < unitsAt infMag := scaledMag_eq a ▸ unitsAt_strictMono (isFinite_iff_magOf.mp h)
  rw [unitsAt_infMag] at hlt
  have hpow : (4 : Nat) ^ 214 = 2 ^ 277 * 2 ^ 151 := by rw [← pow_add, show (4 : Nat) = 2 ^ 2 from rfl, ← pow_mul]
  rw [hpow]
  exact Nat.mul_lt_mul_of_lt_of_le hlt (Nat.pow_le_pow_right (by decide) (by decide)) (Nat.two_pow_pos _)

theorem isRoot_sqrtResult (a : Word) : IsRoot m a (orNaN .fsqrt [a] (sqrtResult m a)) := by
  refine ⟨fun h => openNaN_of_none (sqrtResult_eq_none h), fun h => ⟨fun hz => ?_, fun hinf => ?_, fun ha hpos => ?_⟩⟩
  · rw [sqrtResult_of_isZero hz, orNaN_some]
  all_goals
    simp only [not_or, not_and, not_not] at h
    obtain ⟨-, hs⟩ := h
  · rw [sqrtResult_of_isInf hinf (Bool.eq_false_iff.mpr fun h => hinf.not_isZero (hs h)), orNaN_some]
  · have hz : ¬ IsZero a := fun h => hpos.ne' (val_eq_zero_iff.mpr h)
    have hs' : signOf a = false := Bool.eq_false_iff.mpr (mt hs hz)
    rw [sqrtResult_of_isFinite ha hz hs', sqrt_val hs', orNaN_some]
    exact roundsTo_roundSqrt m (Nat.mul_pos (Nat.pos_of_ne_zero (mt scaledMag_eq_zero_iff.mp hz)) (Nat.two_pow_pos _))
      (scaledMag_mul_lt ha)

theorem isFused_fmaResult (p q r : Word) : IsFused op operands m p q r (orNaN op operands (fmaResult m p q r)) := by
  refine ⟨fun h => openNaN_of_none (fmaResult_eq_none h),
    fun h => ⟨fun hpq => ?_, fun hp hq hr => ?_, fun hp hq hr => ?_⟩⟩
  · rw [fmaResult_of_isInf h hpq, orNaN_some]
  · rw [fmaResult_of_isInf_addend hp hq hr, orNaN_some]
  · rw [fmaResult_of_isFinite hp hq hr, orNaN_some]
    exact roundSum_spec m _ _ (Nat.two_pow_pos _) (cast_val_mul_val_add_val p q r)

end

/-! ## The statements on arithmetic -/

/-- Settles O44: each of the five is its exact operation, rounded once; FSUB.S is FADD.S's with b negated. -/
theorem floatArithmetic : Obligations.FloatArithmetic := by
  refine ⟨?spellsAdd, ?add, ?spellsSub, ?sub, ?spellsMul, ?mul, ?spellsDiv, ?div, ?spellsSqrt, ?sqrt⟩
  case spellsAdd | spellsSub | spellsMul | spellsDiv | spellsSqrt =>
    exact spells_of_opFpSlot rfl (fun _ => rfl) (fun _ => rfl) rfl (by decide)
  case add | sub => exact floatRm_of_opFFrm (fun _ _ _ _ _ => rfl) fun _ _ _ => isSum_addResult _ _
  case mul => exact floatRm_of_opFFrm (fun _ _ _ _ _ => rfl) fun _ => isProduct_mulResult
  case div => exact floatRm_of_opFFrm (fun _ _ _ _ _ => rfl) fun _ => isQuotient_divResult
  case sqrt => exact floatRm1_of_opFrm (fun _ _ _ _ _ => rfl) fun _ => isRoot_sqrtResult

/-- Settles O45: each of the four is the one fused operation on operands negated as its row says. -/
theorem fusedMultiplyAdd : Obligations.FusedMultiplyAdd := by
  refine ⟨?spellsMadd, ?madd, ?spellsMsub, ?msub, ?spellsNmsub, ?nmsub, ?spellsNmadd, ?nmadd⟩
  case spellsMadd => exact spellsFused_of_lookup .madd rfl (fun _ _ _ _ _ _ => rfl) fun _ => rfl
  case spellsMsub => exact spellsFused_of_lookup .msub rfl (fun _ _ _ _ _ _ => rfl) fun _ => rfl
  case spellsNmsub => exact spellsFused_of_lookup .nmsub rfl (fun _ _ _ _ _ _ => rfl) fun _ => rfl
  case spellsNmadd => exact spellsFused_of_lookup .nmadd rfl (fun _ _ _ _ _ _ => rfl) fun _ => rfl
  case madd | msub | nmsub | nmadd =>
    exact fusedRm_of_opFFFrm (fun _ _ _ _ _ _ _ => rfl) fun _ _ _ _ => isFused_fmaResult _ _ _

end Sys2Proof.Claims
end

section
/-! SUPPORT. Conversions: an integer rounded like any other exact fraction, and a float's nearest integer with its ties,
clamped. Then the statements of 45_float.md on conversions. -/

namespace Sys2Proof.Claims

open Sys2Proof.Machine

/-! ## From an integer (R300, R301) -/

theorem ofInteger_spec (n : ℤ) : (n = 0 → ofInteger n = 0#32) ∧ (n ≠ 0 → RoundsTo .rne (n : ℝ) (ofInteger n)) := by
  have hn : ((n : ℚ) : ℝ) =
      signFactor (decide (n < 0)) * (((n.natAbs * 2 ^ 149 : ℕ) / (1 : ℕ) : ℝ) * ulp) := by
    rw [Nat.cast_one, div_one, Nat.cast_mul, Nat.cast_pow, Nat.cast_ofNat, mul_assoc, two_pow_mul_ulp, mul_one,
      signFactor_mul_natAbs, Rat.cast_intCast]
  have hspec := roundFrac_spec .rne Nat.one_pos hn
  rw [Rat.cast_intCast, ne_eq, Int.cast_eq_zero] at hspec
  refine ⟨fun hzero => (hspec.1 hzero).trans ?_, hspec.2⟩
  subst hzero
  rfl

/-! ## To an integer (R298, R299) -/

/-- The nearest integer to so many units, the tie going as `tie` says. -/
def rintMag (tie : Config.TieBreak) (mag : Nat) : Nat :=
  if tieRoundsUp tie (mag / 2 ^ 149 % 2 == 1) (restOf (mag % 2 ^ 149) (2 ^ 149)) then mag / 2 ^ 149 + 1
  else mag / 2 ^ 149

theorem rint_eq (tie : Config.TieBreak) (a : Word) :
    rint tie a = signFactor (signOf a) * (rintMag tie (scaledMag a) : ℤ) := by
  have h : rint tie a =
    if fSign a then -(rintMag tie (scaledMag a) : ℤ) else (rintMag tie (scaledMag a) : ℤ) := rfl
  rw [h, fSign_eq]
  cases signOf a <;> simp [signFactor]

/-- A real between two neighbouring integers goes to the nearer one, and from the middle where `tie` says. -/
theorem abs_sub_tieRoundsUp {y : ℝ} {t : Nat} {rest : Rest} (tie : Config.TieBreak) (h : Between y t (t + 1) rest)
    {n : Nat} (hn : n = if tieRoundsUp tie (t % 2 == 1) rest then t + 1 else t) :
    |y - n| ≤ 1 / 2 ∧ (|y - n| = 1 / 2 → (tie = .tiesToEven → n % 2 = 0) ∧ (tie = .tiesAway → y < n)) := by
  cases rest <;> simp only [Between] at h
  case exact =>
    obtain rfl : n = t := hn
    simp [h]
  case below =>
    obtain rfl : n = t := hn
    rw [abs_of_nonneg (by linarith)]
    exact ⟨by linarith, fun hhalf => by linarith⟩
  case half =>
    have htaken : (n = t ∧ tie = .tiesToEven ∧ t % 2 = 0) ∨ (n = t + 1 ∧ (tie = .tiesToEven → t % 2 = 1)) := by
      obtain ht | ht := Nat.mod_two_eq_zero_or_one t <;> cases tie <;> simp [hn, tieRoundsUp, ht]
    obtain ⟨rfl, rfl, heven⟩ | ⟨rfl, hodd⟩ := htaken
    · rw [abs_of_nonneg (by linarith)]
      exact ⟨by linarith, fun _ => ⟨fun _ => heven, nofun⟩⟩
    · push_cast
      rw [abs_sub_comm, abs_of_nonneg (by linarith)]
      exact ⟨by linarith, fun _ => ⟨fun ht => by have := hodd ht; omega, fun _ => by linarith⟩⟩
  case above =>
    obtain rfl : n = t + 1 := hn
    push_cast
    rw [abs_sub_comm, abs_of_nonneg (by linarith)]
    exact ⟨by linarith, fun hhalf => by linarith⟩

theorem between_rintMag (mag : Nat) :
    Between (mag * ulp) (mag / 2 ^ 149 : ℕ) ((mag / 2 ^ 149 : ℕ) + 1) (restOf (mag % 2 ^ 149) (2 ^ 149)) := by
  have h := (between_restOf mag (Nat.two_pow_pos 149)).mul_right ulp_pos
  rwa [Nat.cast_pow, Nat.cast_ofNat, mul_assoc, mul_assoc, two_pow_mul_ulp, mul_one, mul_one] at h

theorem abs_signFactor_mul (sign : Bool) (y : ℝ) : |signFactor sign * y| = |y| := by
  cases sign <;> simp [signFactor]

theorem isRint_rint (tie : Config.TieBreak) (a : Word) : IsRint tie (val a) (rint tie a) := by
  obtain ⟨hnear, htie⟩ := abs_sub_tieRoundsUp tie (between_rintMag (scaledMag a)) (n := rintMag tie (scaledMag a)) rfl
  have hdist : ((|val a - rint tie a| : ℚ) : ℝ) = |scaledMag a * ulp - rintMag tie (scaledMag a)| := by
    rw [Rat.cast_abs, Rat.cast_sub, cast_val_eq_scaledMag, Rat.cast_intCast, rint_eq, Int.cast_mul, Int.cast_natCast,
      ← mul_sub, abs_signFactor_mul]
  rw [← hdist, show (1 / 2 : ℝ) = ((1 / 2 : ℚ) : ℝ) by norm_num] at hnear htie
  rw [Rat.cast_le] at hnear
  rw [Rat.cast_inj] at htie
  refine ⟨hnear, fun hhalf => ?_⟩
  obtain ⟨heven, haway⟩ := htie hhalf
  cases tie with
  | tiesToEven =>
    have h := heven rfl
    rw [rint_eq]
    cases signOf a <;> simp [signFactor] <;> omega
  | tiesAway =>
    have h := haway rfl
    have habs : ((|val a| : ℚ) : ℝ) < ((|(rint .tiesAway a : ℚ)| : ℚ) : ℝ) := by
      rw [Rat.cast_abs, cast_val_eq_scaledMag, Rat.cast_abs, Rat.cast_intCast, rint_eq, Int.cast_mul, Int.cast_natCast,
        abs_signFactor_mul, abs_signFactor_mul, Nat.abs_cast, abs_of_nonneg (mul_nonneg (Nat.cast_nonneg _) ulp_pos.le)]
      exact h
    exact_mod_cast habs

theorem clamp_of_le {lo hi n : ℤ} (hn : n ≤ lo) (hle : lo ≤ hi) : clamp lo hi n = lo := by
  rw [clamp, max_eq_left hn, min_eq_right hle]

theorem clamp_of_ge {lo hi n : ℤ} (hn : hi ≤ n) : clamp lo hi n = hi :=
  min_eq_left (hn.trans (le_max_right ..))

theorem rint_signedInf (tie : Config.TieBreak) (sign : Bool) :
    rint tie (signedInf sign) = if sign then -2 ^ 128 else 2 ^ 128 := by
  cases tie <;> cases sign <;> rfl

/-- A conversion clamps the nearest integer; what it answers for a NaN is not this rule's. -/
theorem isClamped_rint (tie : Config.TieBreak) {lo hi : ℤ} (hlo : -2 ^ 128 ≤ lo) (hle : lo ≤ hi) (hhi : hi ≤ 2 ^ 128)
    (a w : Word) : IsClamped tie lo hi a (if isNaN a then w else BitVec.ofInt 32 (clamp lo hi (rint tie a))) := by
  have hvalue (h : ¬ IsNaN a) : (if isNaN a then w else BitVec.ofInt 32 (clamp lo hi (rint tie a))) =
      BitVec.ofInt 32 (clamp lo hi (rint tie a)) := if_neg (mt isNaN_iff.mp h)
  refine ⟨fun ha hs => ?_, fun ha hs => ?_, fun ha => ⟨_, isRint_rint tie a, hvalue ha.not_isNaN⟩⟩
  · rw [hvalue ha.not_isNaN, eq_signedInf ha, rint_signedInf, hs, if_pos rfl, clamp_of_le hlo hle]
  · rw [hvalue ha.not_isNaN, eq_signedInf ha, rint_signedInf, hs, if_neg Bool.false_ne_true, clamp_of_ge hhi]

/-! ## The statements -/

/-- Settles O50: the NaN boundary is the parameter's, and any other pattern is clamped. -/
theorem floatToInteger : Obligations.FloatToInteger := by
  refine ⟨?spellsW, floatToX_of_opXF (fun _ _ _ _ => rfl) fun s a => ⟨fun hn hp => ?_, fun hn hp => ?_, ?_⟩,
    ?spellsWU, floatToX_of_opXF (fun _ _ _ _ => rfl) fun s a => ⟨fun hn hp => ?_, fun hn hp => ?_, ?_⟩⟩
  case spellsW | spellsWU => exact spells_of_opFpSlot rfl (fun _ => rfl) (fun _ => rfl) rfl (by decide)
  · simp [fcvtToW, hn, hp]
  · simp [fcvtToW, hn, hp]
  · exact isClamped_rint _ (by decide) (by decide) (by decide) a _
  · simp [fcvtToWU, hn, hp]
  · simp [fcvtToWU, hn, hp]
  · exact isClamped_rint _ (by decide) (by decide) (by decide) a _

/-- Settles O51: both conversions are `ofInteger`, of the signed and of the unsigned value. -/
theorem integerToFloat : Obligations.IntegerToFloat := by
  refine ⟨?spellsW, xToFloat_of_opFX (fun _ _ _ _ => rfl) fun a => ofInteger_spec a.toInt, ?spellsWU,
    xToFloat_of_opFX (fun _ _ _ _ => rfl) fun a => ?_⟩
  case spellsW | spellsWU => exact spells_of_opFpSlot rfl (fun _ => rfl) (fun _ => rfl) rfl (by decide)
  · exact_mod_cast ofInteger_spec a.toNat

end Sys2Proof.Claims
end

section
/-! SUPPORT. Bit manipulation: the words of an OP-IMM row with no operand field, and what the model's searches, rotations
and byte operations answer in the statements' vocabulary. Then the statements on results of 46_bitmanip.md. -/

namespace Sys2Proof.Claims

open Sys2Proof.Machine

/-! ## The words of an OP-IMM row with no third operand -/

/-- The key of an OP-IMM word is read from funct3 and the two parts of the immediate alone (R119). -/
theorem opImmKey_congr {w w' : Word} (h3 : funct3Of w = funct3Of w') (h7 : funct7Of w = funct7Of w')
    (h2 : rs2Of w = rs2Of w') : opImmKey (decodeI w) = opImmKey (decodeI w') := by
  simp only [opImmKey, decodeI, immHi_immI, immLo_immI, h3, h7, h2]

/-- The words of an OP-IMM row whose key folds in imm[4:0], so that the row fixes the whole immediate (R119). -/
theorem spells_of_opImmUnarySlot {mtch : Word} {mk : RegIdx → RegIdx → Instr}
    (hrow : ∀ rd rs1, (mk rd rs1).row = (mtch, 0xFFF0707F)) (hop : opcodeOf mtch = 0x13#7)
    (hslot : slotAt opImmSlots (opImmKey (decodeI mtch)) = some fun f => mk f.rd f.rs1) :
    Spells mtch 0xFFF0707F fun w => mk (wRd w) (wRs1 w) := by
  refine spells_of_decode (fun _ => hrow _ _) fun w hw => ?_
  have hkey : opImmKey (decodeI w) = opImmKey (decodeI mtch) :=
    opImmKey_congr (extractLsb'_of_and_eq hw rfl) (extractLsb'_of_and_eq hw rfl) (extractLsb'_of_and_eq hw rfl)
  exact decode_of_opImmSlot ((extractLsb'_of_and_eq hw rfl).trans hop) (hkey ▸ hslot)

theorem unaryRule_of_opImmSlot {mtch : Word} {mk : RegIdx → RegIdx → Instr} {P : Word → Word → Prop} {g : Word → Word}
    (hrow : ∀ rd rs1, (mk rd rs1).row = (mtch, 0xFFF0707F)) (hop : opcodeOf mtch = 0x13#7)
    (hslot : slotAt opImmSlots (opImmKey (decodeI mtch)) = some fun f => mk f.rd f.rs1)
    (hexec : ∀ s rd rs1, exec (mk rd rs1) s = complete (mk rd rs1) s (s.opX rd rs1 g))
    (hP : ∀ a, P a (g a)) : UnaryRule mtch mk P :=
  ⟨spells_of_opImmUnarySlot hrow hop hslot, oneReg_of_opX (fun s rd rs1 _ => hexec s rd rs1) fun a _ => hP a⟩

/-- A word of a group whose lookup finds no slot spells nothing (R115). -/
theorem decode_of_lookup_eq_none {w : Word} {g : Group} (hop : opcodeOf w = g.opcode) (h : g.lookup w = none) :
    decode w = .error .unknownInstruction := by
  simp only [decode, groupOf_eq_some.mpr hop, h]

/-- No OP-IMM slot has imm[11:5] = 0b0110001, which differs from RORI's in bit 25 alone (R356). -/
theorem decode_of_rori_bit25 {w : Word} (hop : opcodeOf w = 0x13#7) (h3 : funct3Of w = 0b101#3)
    (h7 : funct7Of w = 0b0110001#7) : decode w = .error .unknownInstruction := by
  have hkey : opImmKey (decodeI w) = (0b101#3, 0b0110001#7, 0) := by
    simp [opImmKey, decodeI, immHi_immI, h3, h7]
  have hslot : slotAt opImmSlots (0b101#3, 0b0110001#7, 0) = none := rfl
  exact decode_of_lookup_eq_none (g := .opImm) hop (by rw [Group.lookup, hkey, hslot]; rfl)

/-! ## Searches for a set bit (R344 to R346) -/

section
variable {a : Word} {k : Nat}

theorem highestSet_zero : highestSet 0#32 = none := rfl
theorem lowestSet_zero : lowestSet 0#32 = none := rfl

/-- The search runs through the indices downward: where it stops at `k`, every higher bit is clear. -/
theorem highestSet_eq_some (hk : k < 32) (hset : a.getLsbD k = true) (hclear : ∀ j, k < j → a.getLsbD j = false) :
    highestSet a = some k := by
  have hindex {j : Nat} (hj : j < (List.range 32).reverse.length) : (List.range 32).reverse[j] = 31 - j := by
    rw [List.getElem_reverse, List.getElem_range, List.length_range]
  have hlen : 31 - k < (List.range 32).reverse.length := by
    rw [List.length_reverse, List.length_range]
    omega
  refine List.find?_eq_some_iff_getElem.mpr ⟨hset, 31 - k, hlen, ?_, fun j hj => ?_⟩
  · rw [hindex]
    omega
  · rw [hindex, hclear (31 - j) (by omega)]
    rfl

/-- The search runs through the indices upward: where it stops at `k`, every lower bit is clear. -/
theorem lowestSet_eq_some (hk : k < 32) (hset : a.getLsbD k = true) (hclear : ∀ j, j < k → a.getLsbD j = false) :
    lowestSet a = some k :=
  List.find?_range_eq_some.mpr ⟨hset, List.mem_range.mpr hk, fun j hj => by rw [hclear j hj]; rfl⟩

end

theorem countLeading_spec (a : Word) : (a = 0#32 → countLeading a = 32) ∧ ∀ k, k < 32 → a.getLsbD k = true →
    (∀ j, k < j → a.getLsbD j = false) → countLeading a = BitVec.ofNat 32 (31 - k) := by
  refine ⟨?_, fun k hk hset hclear => ?_⟩
  · rintro rfl
    rw [countLeading, highestSet_zero]
  · rw [countLeading, highestSet_eq_some hk hset hclear]

theorem countTrailing_spec (a : Word) : (a = 0#32 → countTrailing a = 32) ∧ ∀ k, k < 32 → a.getLsbD k = true →
    (∀ j, j < k → a.getLsbD j = false) → countTrailing a = BitVec.ofNat 32 k := by
  refine ⟨?_, fun k hk hset hclear => ?_⟩
  · rintro rfl
    rw [countTrailing, lowestSet_zero]
  · rw [countTrailing, lowestSet_eq_some hk hset hclear]

theorem countSet_eq_card (a : Word) :
    countSet a = BitVec.ofNat 32 ((Finset.range 32).filter fun k => a.getLsbD k).card := by
  rw [← Nat.count_eq_card_filter_range, Nat.count, countSet]
  simp only [Bool.decide_eq_true]

/-! ## Rotations (R354 to R356) -/

/-- A rotation by 0 ORs the word with itself, where the library's shifts the second copy out. -/
theorem rotateLeft_eq (a : Word) (n : BitVec 5) : rotateLeft a n = a.rotateLeft n.toNat := by
  rw [rotateLeft, BitVec.rotateLeft_def, Nat.mod_eq_of_lt n.isLt]
  by_cases hn : n.toNat = 0
  · simp [hn, BitVec.ushiftRight_eq_zero]
  · rw [Nat.mod_eq_of_lt (by omega)]

theorem rotateRight_eq (a : Word) (n : BitVec 5) : rotateRight a n = a.rotateRight n.toNat := by
  rw [rotateRight, BitVec.rotateRight_def, Nat.mod_eq_of_lt n.isLt]
  by_cases hn : n.toNat = 0
  · simp [hn]
  · rw [Nat.mod_eq_of_lt (by omega)]

theorem rotateLeft_amount (a b : Word) : rotateLeft a (amount b) = a.rotateLeft (b.toNat % 32) := by
  rw [rotateLeft_eq, toNat_amount]

theorem rotateRight_amount (a b : Word) : rotateRight a (amount b) = a.rotateRight (b.toNat % 32) := by
  rw [rotateRight_eq, toNat_amount]

/-! ## Extension (R351 to R353) -/

/-- R14's two shifts use the low `n` bits of the word alone. -/
theorem sext_eq_signExtend {n : Nat} (hpos : 0 < n) (hn : n ≤ 32) (a : Word) :
    sext n a = (a.extractLsb' 0 n).signExtend 32 := by
  rw [← sext_place hpos hn, sext, sext]
  congr 1
  apply BitVec.eq_of_getLsbD_eq
  intro i hi
  by_cases h : i < 32 - n
  · simp [h]
  · simp [place_low, hi, h, show i - (32 - n) < n by omega, show i - (32 - n) < 32 by omega]

theorem zext_eq_setWidth {n : Nat} (hn : n ≤ 32) (a : Word) : zext n a = (a.extractLsb' 0 n).setWidth 32 := by
  rw [zext, BitVec.setWidth_eq_extractLsb' hn]

/-! ## Bytes (R357, R358) -/

/-- Byte `k` of a word put together from four bytes is the `k`-th of them. -/
theorem byteOf_wordOfBytes (f : Nat → Byte) {k : Nat} (hk : k < 4) :
    byteOf (wordOfBytes (f 0) (f 1) (f 2) (f 3)) k = f k := by
  rw [wordOfBytes_eq_append, byteOf]
  interval_cases k <;>
    simp only [Nat.reduceMul, Nat.reduceSub, Nat.reduceLeDiff, le_refl, BitVec.extractLsb'_append_eq_of_le,
      BitVec.extractLsb'_append_eq_right, BitVec.extractLsb'_eq_self]

theorem byteOf_orCombine (a : Word) {k : Nat} (hk : k < 4) :
    byteOf (orCombine a) k = if byteOf a k = 0#8 then 0x00#8 else 0xFF#8 :=
  byteOf_wordOfBytes (fun k => if byteOf a k = 0#8 then 0x00#8 else 0xFF#8) hk

theorem byteOf_reverseBytes (a : Word) {k : Nat} (hk : k < 4) : byteOf (reverseBytes a) k = byteOf a (3 - k) :=
  byteOf_wordOfBytes (fun k => byteOf a (3 - k)) hk

/-! ## The statements -/

/-- Settles O54: each of the nine is an OP slot whose meaning is `opXX`. The logical ones have the statement's result at
once, the others by the comparison or the rotation by the amount that a register gives. -/
theorem bitManipulationTwoRegisters : Obligations.BitManipulationTwoRegisters := by
  refine ⟨?andn, ?orn, ?xnor, ?min, ?max, ?minu, ?maxu, ?rol, ?ror⟩
  case min | max =>
    exact regRegRule_of_opSlot (fun _ _ _ => rfl) rfl rfl (fun _ _ _ _ => rfl) fun _ _ => if_congr (ltS_iff _ _) rfl rfl
  case minu | maxu =>
    exact regRegRule_of_opSlot (fun _ _ _ => rfl) rfl rfl (fun _ _ _ _ => rfl) fun _ _ => if_congr (ltU_iff _ _) rfl rfl
  case rol => exact regRegRule_of_opSlot (fun _ _ _ => rfl) rfl rfl (fun _ _ _ _ => rfl) rotateLeft_amount
  case ror => exact regRegRule_of_opSlot (fun _ _ _ => rfl) rfl rfl (fun _ _ _ _ => rfl) rotateRight_amount
  case andn | orn | xnor =>
    exact regRegRule_of_opSlot (fun _ _ _ => rfl) rfl rfl (fun _ _ _ _ => rfl) fun _ _ => rfl

/-- Settles O55: each of the nine is an OP-IMM slot, ZEXT.H an OP slot, whose meaning is `opX`; the result is the
statement's by the facts on searches, extension, rotation and bytes. -/
theorem bitManipulationOneRegister : Obligations.BitManipulationOneRegister := by
  refine ⟨?clz, ?ctz, ?cpop, ?sextB, ?sextH, ⟨?spellsZextH, ?zextH⟩, ?rori, ?orcB, ?rev8, ?illegal⟩
  case clz => exact unaryRule_of_opImmSlot (fun _ _ => rfl) rfl rfl (fun _ _ _ => rfl) countLeading_spec
  case ctz => exact unaryRule_of_opImmSlot (fun _ _ => rfl) rfl rfl (fun _ _ _ => rfl) countTrailing_spec
  case cpop => exact unaryRule_of_opImmSlot (fun _ _ => rfl) rfl rfl (fun _ _ _ => rfl) countSet_eq_card
  case sextB | sextH =>
    exact unaryRule_of_opImmSlot (fun _ _ => rfl) rfl rfl (fun _ _ _ => rfl) (sext_eq_signExtend (by decide) (by decide))
  case spellsZextH => exact spells_of_opSlot (fun _ _ _ => rfl) rfl rfl
  case zextH => exact oneReg_of_opX (fun _ _ _ _ => rfl) fun a _ => zext_eq_setWidth (by decide) a
  case rori =>
    exact regLoRule_of_opImmSlot (fun _ _ _ => rfl) rfl (by decide) (by decide) rfl (fun _ _ _ _ => rfl) rotateRight_eq
  case orcB =>
    exact regLoRule_of_opImmSlot (fun _ _ _ => rfl) rfl (by decide) (by decide) rfl (fun _ _ _ _ => rfl)
      fun a _ _ => byteOf_orCombine a
  case rev8 =>
    exact regLoRule_of_opImmSlot (fun _ _ _ => rfl) rfl (by decide) (by decide) rfl (fun _ _ _ _ => rfl)
      fun a _ _ => byteOf_reverseBytes a
  case illegal => exact fun _ => decode_of_rori_bit25

end Sys2Proof.Claims
end

section
/-! SUPPORT. Encoding what the decoder answers: the fields of each format tile the word, a slot of the registry encodes
to its format with the fields its key fixes, and so a decoded instruction encodes to the word it was decoded from. Then
the statement of 60_exceptions.md. -/

namespace Sys2Proof

open Sys2Proof.Claims

/-! ## Each format's fields tile the word (R108)

An immediate gives back the fields it was put together from, so each format's word is the fields of `w` in their own
places: `w` under their masks, which together are all ones. -/

/-- A field of a word in its own place is the word under the field's mask. -/
theorem place_extractLsb' (w : Word) (lo n : Nat) :
    place (w.extractLsb' lo n) lo = w &&& place (BitVec.allOnes n) lo := by
  rw [BitVec.and_comm, place_and, BitVec.allOnes_and]

section
variable {n : Nat} (v : BitVec n) {k lo m : Nat}

theorem extractLsb'_place_same (h : k + n ≤ 32) : (place v k).extractLsb' k n = v := by
  apply BitVec.eq_of_getLsbD_eq
  intro j hj
  simp only [BitVec.getLsbD_extractLsb', getLsbD_place, hj, show k + j < 32 by omega, Nat.le_add_right,
    Nat.add_sub_cancel_left, decide_true, Bool.true_and]

theorem extractLsb'_place_disjoint (h : lo + m ≤ k ∨ k + n ≤ lo) : (place v k).extractLsb' lo m = 0#m := by
  apply BitVec.eq_of_getLsbD_eq
  intro j hj
  rw [BitVec.getLsbD_extractLsb', getLsbD_place, BitVec.getLsbD_zero]
  obtain hbelow | habove := h
  · simp [show ¬ k ≤ lo + j by omega]
  · simp [BitVec.getLsbD_of_ge v (lo + j - k) (by omega)]

end

/-- Sign extension keeps the field it extends. -/
theorem extractLsb'_sext {m lo n : Nat} (v : Word) (hm : m ≤ 32) (h : lo + n ≤ m) :
    (sext m v).extractLsb' lo n = v.extractLsb' lo n := by
  apply BitVec.eq_of_getLsbD_eq
  intro j hj
  simp only [sext, BitVec.getLsbD_extractLsb', BitVec.getLsbD_sshiftRight, BitVec.getLsbD_shiftLeft, hj,
    show ¬ 32 ≤ lo + j by omega, show 32 - m + (lo + j) < 32 by omega, show ¬ 32 - m + (lo + j) < 32 - m by omega,
    Nat.add_sub_cancel_left, decide_true, decide_false, Bool.not_false, Bool.true_and, if_true]

section
variable (w : Word)

theorem encI_decodeI : encI (decodeI w) = w := by
  simp (disch := decide) only [encI, decodeI, rs1Of, funct3Of, rdOf, opcodeOf, immI, extractLsb'_sext,
    extractLsb'_place_same]
  simp only [place_extractLsb', ← BitVec.and_or_distrib_left]
  exact BitVec.and_allOnes

theorem encS_decodeS : encS (decodeS w) = w := by
  simp (disch := decide) only [encS, decodeS, rs1Of, rs2Of, funct3Of, opcodeOf, immS, extractLsb'_sext,
    BitVec.extractLsb'_or, extractLsb'_place_same, extractLsb'_place_disjoint, BitVec.or_zero, BitVec.zero_or]
  simp only [place_extractLsb', ← BitVec.and_or_distrib_left]
  exact BitVec.and_allOnes

theorem encB_decodeB : encB (decodeB w) = w := by
  simp (disch := decide) only [encB, decodeB, rs1Of, rs2Of, funct3Of, opcodeOf, immB, extractLsb'_sext,
    BitVec.extractLsb'_or, extractLsb'_place_same, extractLsb'_place_disjoint, BitVec.or_zero, BitVec.zero_or]
  simp only [place_extractLsb', ← BitVec.and_or_distrib_left]
  exact BitVec.and_allOnes

theorem encU_decodeU : encU (decodeU w) = w := by
  simp (disch := decide) only [encU, decodeU, rdOf, opcodeOf, immU, extractLsb'_place_same]
  simp only [place_extractLsb', ← BitVec.and_or_distrib_left]
  exact BitVec.and_allOnes

theorem encJ_decodeJ : encJ (decodeJ w) = w := by
  simp (disch := decide) only [encJ, decodeJ, rdOf, opcodeOf, immJ, extractLsb'_sext,
    BitVec.extractLsb'_or, extractLsb'_place_same, extractLsb'_place_disjoint, BitVec.or_zero, BitVec.zero_or]
  simp only [place_extractLsb', ← BitVec.and_or_distrib_left]
  exact BitVec.and_allOnes

theorem encR4_decodeR4 : encR4 (decodeR4 w) = w := by
  simp only [encR4, decodeR4, rs3Of, fmtOf, rs2Of, rs1Of, funct3Of, rdOf, opcodeOf, place_extractLsb',
    ← BitVec.and_or_distrib_left]
  exact BitVec.and_allOnes

/-- An I immediate is the sign-extended join of its two parts (R105). -/
theorem immOf_immI : immOf (immHi (immI w)) (immLo (immI w)) = immI w := by
  have hjoin : funct7Of w ++ rs2Of w = w.extractLsb' 20 12 :=
    BitVec.extractLsb'_append_extractLsb'_eq_extractLsb' (start₁ := 20) (len₁ := 5) rfl
  rw [immHi_immI, immLo_immI, immOf, immI, ← hjoin, place_append]

end

/-! ## A slot's instruction encodes to its fields, with those its key fixes -/

/-- The immediate of an OP-IMM slot: the parts the key holds (R119), the rest from the decoded immediate. -/
def opImmOf (imm : Word) : BitVec 3 × BitVec 7 × BitVec 5 → Word
  | (f3, hi, lo) =>
    if f3 ≠ 0b001#3 ∧ f3 ≠ 0b101#3 then imm
    else if f3 = 0b001#3 ∧ hi = 0b0110000#7 then immOf hi lo
    else immOf hi (immLo imm)

theorem loadSlots_encode : ∀ p ∈ loadSlots, ∀ f,
    encode (p.2 f) = encI { f with opcode := Group.load.opcode, funct3 := p.1 } := by
  rw [← List.forall_iff_forall_mem]
  and_intros <;> exact fun _ => rfl

theorem opImmSlots_encode : ∀ p ∈ opImmSlots, ∀ f,
    encode (p.2 f) = encI { f with opcode := Group.opImm.opcode, funct3 := p.1.1, imm := opImmOf f.imm p.1 } := by
  rw [← List.forall_iff_forall_mem]
  and_intros <;> exact fun _ => rfl

theorem storeSlots_encode : ∀ p ∈ storeSlots, ∀ f,
    encode (p.2 f) = encS { f with opcode := Group.store.opcode, funct3 := p.1 } := by
  rw [← List.forall_iff_forall_mem]
  and_intros <;> exact fun _ => rfl

theorem opSlots_encode : ∀ p ∈ opSlots, ∀ f, encode (p.2 f) =
    encR { f with opcode := Group.op.opcode, funct3 := p.1.extractLsb' 0 3, funct7 := p.1.extractLsb' 3 7 } := by
  rw [← List.forall_iff_forall_mem]
  and_intros <;> exact fun _ => rfl

theorem opFpSlots_encode : ∀ p ∈ opFpSlots, ∀ f, encode (p.2 f) =
    encR { f with
      opcode := Group.opFp.opcode, funct7 := p.1.1
      funct3 := if p.1.1 ∈ rmSet then f.funct3 else p.1.2.1
      rs2 := if p.1.1 ∈ rs2Set then p.1.2.2 else f.rs2 } := by
  rw [← List.forall_iff_forall_mem]
  and_intros <;> exact fun _ => rfl

theorem branchSlots_encode : ∀ p ∈ branchSlots, ∀ f,
    encode (p.2 f) = encB { f with opcode := Group.branch.opcode, funct3 := p.1 } := by
  rw [← List.forall_iff_forall_mem]
  and_intros <;> exact fun _ => rfl

theorem systemSlots_encode : ∀ p ∈ systemSlots, ∀ f,
    encode (p.2 f) = encI { f with opcode := Group.system.opcode, imm := BitVec.ofInt 32 p.1 } := by
  rw [← List.forall_iff_forall_mem]
  and_intros <;> exact fun _ => rfl

/-- What a table's slots encode to under a key is what the instruction that the table answers encodes to. -/
theorem encode_of_slot {K F : Type} [DecidableEq K] {table : List (K × (F → Instr))} {key : K} {f : F} {w : Word}
    {i : Instr} (htable : ∀ p ∈ table, p.1 = key → encode (p.2 f) = w)
    (h : (slotAt table key).map (· f) = some i) : encode i = w := by
  obtain ⟨slot, hslot, rfl⟩ := Option.map_eq_some_iff.mp h
  exact htable _ (mem_of_slotAt hslot) rfl

theorem opImmKey_fst (f : IFields) : (opImmKey f).1 = f.funct3 := by
  rw [opImmKey]
  split_ifs <;> rfl

theorem opImmOf_opImmKey (w : Word) : opImmOf (decodeI w).imm (opImmKey (decodeI w)) = (decodeI w).imm := by
  rw [opImmKey, decodeI]
  split
  · next h3 => rw [opImmOf, if_pos h3]
  split
  · next h3 h7 => rw [opImmOf, if_neg h3, if_pos h7, immOf_immI]
  · next h3 h7 => rw [opImmOf, if_neg h3, if_neg h7, immOf_immI]

theorem funct3_of_fpKey (f : RFields) : (if (fpKey f).1 ∈ rmSet then f.funct3 else (fpKey f).2.1) = f.funct3 := by
  by_cases hrm : f.funct7 ∈ rmSet <;> simp only [fpKey, hrm, if_true, if_false]

theorem rs2_of_fpKey (f : RFields) : (if (fpKey f).1 ∈ rs2Set then (fpKey f).2.2 else f.rs2) = f.rs2 := by
  by_cases hrs : f.funct7 ∈ rs2Set <;> simp only [fpKey, hrs, if_true, if_false]

/-- An instruction that the decoder answers encodes to the word it was decoded from: no bit of the word is dropped. -/
theorem encode_of_decode {w : Word} {i : Instr} (h : decode w = .ok i) : encode i = w := by
  obtain ⟨g, hop, hi⟩ := decode_eq_ok.mp h
  have hR : encR { decodeR w with opcode := g.opcode } = w := hop ▸ encR_decodeR w
  have hI : encI { decodeI w with opcode := g.opcode } = w := hop ▸ encI_decodeI w
  have hS : encS { decodeS w with opcode := g.opcode } = w := hop ▸ encS_decodeS w
  have hB : encB { decodeB w with opcode := g.opcode } = w := hop ▸ encB_decodeB w
  have hU : encU { decodeU w with opcode := g.opcode } = w := hop ▸ encU_decodeU w
  have hJ : encJ { decodeJ w with opcode := g.opcode } = w := hop ▸ encJ_decodeJ w
  have hR4 : encR4 { decodeR4 w with opcode := g.opcode } = w := hop ▸ encR4_decodeR4 w
  cases g with
  | load => exact encode_of_slot (fun p hp hkey => by rw [loadSlots_encode p hp, hkey]; exact hI) hi
  | opImm =>
    refine encode_of_slot (fun p hp hkey => ?_) hi
    rw [opImmSlots_encode p hp, hkey, opImmKey_fst, opImmOf_opImmKey]
    exact hI
  | store => exact encode_of_slot (fun p hp hkey => by rw [storeSlots_encode p hp, hkey]; exact hS) hi
  | op =>
    refine encode_of_slot (fun p hp hkey => ?_) hi
    rw [opSlots_encode p hp, hkey, opKey_funct3, opKey_funct7]
    exact hR
  | opFp =>
    refine encode_of_slot (fun p hp hkey => ?_) hi
    rw [opFpSlots_encode p hp, hkey, funct3_of_fpKey, rs2_of_fpKey]
    exact hR
  | branch => exact encode_of_slot (fun p hp hkey => by rw [branchSlots_encode p hp, hkey]; exact hB) hi
  | system =>
    simp only [Group.lookup] at hi
    refine encode_of_slot (fun p hp hkey => ?_) hi
    rw [systemSlots_encode p hp, hkey, BitVec.ofInt_toInt]
    exact hI
  | miscMem | jalr => cases hi; exact hI
  | auipc | lui => cases hi; exact hU
  | jal => cases hi; exact hJ
  | madd | msub | nmsub | nmadd => cases hi; exact hR4

end Sys2Proof

namespace Sys2Proof.Claims

open Sys2Proof.Machine

variable {i : Instr} {s t : State} {r : FaultRecord}

/-! ## Stop outcomes (R33, R384) -/

/-- From a running state, an instruction that ends Faulted has taken a stop outcome: no other effect faults. -/
theorem raises_of_effect (hr : s.run = .running) (h : Effect i s t) (ht : t.run = .faulted r) :
    ∃ e, t = s.raise e (some (encode i)) := by
  cases h with
  | stop e => exact ⟨e, rfl⟩
  | _ => simp [hr] at ht

/-- A step that ends Faulted has taken a stop outcome: with no word where the fetch failed, with the fetched word where
it did not. -/
theorem step_raises (h : step s = .next t) (ht : t.run = .faulted r) :
    ∃ e word, t = s.raise e word ∧ (∀ w, Fetches s w → word = some w) ∧ ((∀ w, ¬ Fetches s w) → word = none) := by
  simp only [fetches_iff_fetch]
  obtain ⟨hr, ⟨e, hfetch, rfl⟩ | ⟨w, hfetch, hrest⟩⟩ := step_cases h
  · exact ⟨e, none, rfl, by simp [hfetch], fun _ => rfl⟩
  have hraise : ∃ e, t = s.raise e (some w) := by
    obtain ⟨e, _, rfl⟩ | ⟨i, hi, hexec⟩ := hrest
    · exact ⟨_, rfl⟩
    · rw [← encode_of_decode hi]
      exact raises_of_effect hr (exec_effect hexec) ht
  obtain ⟨e, rfl⟩ := hraise
  exact ⟨e, some w, rfl, by simp [hfetch], fun h => absurd hfetch (h w)⟩

/-! ## The statement -/

/-- Settles O20: a step that ends Faulted has taken a stop outcome (`step_raises`), whose record holds the pc and the
word; the word exec records, `encode i`, is the fetched one by `encode_of_decode`. -/
theorem faultIsAllOrNothing : Obligations.FaultIsAllOrNothing := by
  intro s t r h ht
  obtain ⟨e, word, rfl, hfetched, hmissed⟩ := step_raises h ht
  cases ht
  exact ⟨rfl, rfl, hfetched, hmissed⟩

end Sys2Proof.Claims
end

section
/-! SUPPORT. The round trips of 30_encoding.md: an immediate in its format's range is the sign extension of the bits the
format keeps of it, so decoding a format's word gives its fields back, and the registry finds an instruction's own slot
at the key of its word. Then the statements on formats and on decoding an encoded instruction. -/

namespace Sys2Proof.Claims

/-! ## The bits a format keeps of an immediate (R100 to R104) -/

/-- An immediate that fits in `n` bits, signed, is the sign extension of its low `n` bits. -/
theorem signExtend_low_of_fits {n : Nat} (hpos : 0 < n) (hn : n ≤ 32) {imm : Word} (hlo : -2 ^ (n - 1) ≤ imm.toInt)
    (hhi : imm.toInt < 2 ^ (n - 1)) : (imm.extractLsb' 0 n).signExtend 32 = imm := by
  have hpow : (2 : ℤ) ^ n = 2 * 2 ^ (n - 1) := by rw [← pow_succ', Nat.sub_add_cancel hpos]
  have hlow : (imm.extractLsb' 0 n).toInt = imm.toInt.bmod (2 ^ n) := by
    rw [← BitVec.setWidth_eq_extractLsb' hn, BitVec.toInt_setWidth, BitVec.toInt_eq_toNat_bmod,
      Int.bmod_bmod_of_dvd (pow_dvd_pow 2 hn)]
  apply BitVec.eq_of_toInt_eq
  rw [BitVec.toInt_signExtend_of_le hn, hlow, Int.bmod_eq_of_le] <;> push_cast <;> omega

/-- An even immediate is its bits from 1 on, with a 0 below. -/
theorem extractLsb'_one_append_zero {n : Nat} {imm : Word} (heven : imm.toInt % 2 = 0) :
    imm.extractLsb' 1 n ++ 0#1 = imm.extractLsb' 0 (n + 1) := by
  have hbit : imm.extractLsb' 0 1 = 0#1 := by
    rw [BitVec.toInt_eq_toNat_cond] at heven
    apply BitVec.eq_of_toNat_eq
    rw [BitVec.extractLsb'_toNat, BitVec.toNat_ofNat]
    split at heven <;> omega
  rw [← hbit]
  exact BitVec.extractLsb'_append_extractLsb'_eq_extractLsb' (start₁ := 0) (start₂ := 1) rfl

/-! ## Decoding a format's word (R108) -/

theorem decodeR_encR (f : RFields) : decodeR (encR f) = f := by
  simp (disch := decide) only [decodeR, encR, opcodeOf, rdOf, funct3Of, rs1Of, rs2Of, funct7Of,
    BitVec.extractLsb'_or, extractLsb'_place_same, extractLsb'_place_disjoint, BitVec.or_zero, BitVec.zero_or]

theorem decodeR4_encR4 (f : R4Fields) : decodeR4 (encR4 f) = f := by
  simp (disch := decide) only [decodeR4, encR4, opcodeOf, rdOf, funct3Of, rs1Of, rs2Of, fmtOf, rs3Of,
    BitVec.extractLsb'_or, extractLsb'_place_same, extractLsb'_place_disjoint, BitVec.or_zero, BitVec.zero_or]

theorem decodeI_encI {f : IFields} (h : immFits12 f.imm) : decodeI (encI f) = f := by
  have himm : (f.imm.extractLsb' 0 12).signExtend 32 = f.imm :=
    signExtend_low_of_fits (by decide) (by decide) h.1 (Int.lt_add_one_of_le h.2)
  simp (disch := decide) only [decodeI, encI, immI_eq_wImmI, wImmI, opcodeOf, rdOf, funct3Of, rs1Of,
    BitVec.extractLsb'_or, extractLsb'_place_same, extractLsb'_place_disjoint, BitVec.or_zero, BitVec.zero_or, himm]

theorem decodeS_encS {f : SFields} (h : immFits12 f.imm) : decodeS (encS f) = f := by
  have himm : (f.imm.extractLsb' 5 7 ++ f.imm.extractLsb' 0 5 : BitVec 12).signExtend 32 = f.imm := by
    rw [BitVec.extractLsb'_append_extractLsb'_eq_extractLsb' (start₁ := 0) (start₂ := 5) rfl]
    exact signExtend_low_of_fits (n := 12) (by decide) (by decide) h.1 (Int.lt_add_one_of_le h.2)
  simp (disch := decide) only [decodeS, encS, immS_eq_wImmS, wImmS, opcodeOf, funct3Of, rs1Of, rs2Of,
    BitVec.extractLsb'_or, extractLsb'_place_same, extractLsb'_place_disjoint, BitVec.or_zero, BitVec.zero_or, himm]

theorem decodeB_encB {f : BFields} (h : immFits13 f.imm) : decodeB (encB f) = f := by
  obtain ⟨hlo, hhi, heven⟩ := h
  have himm : (f.imm.extractLsb' 12 1 ++ f.imm.extractLsb' 11 1 ++ f.imm.extractLsb' 5 6 ++ f.imm.extractLsb' 1 4 ++
      0#1 : BitVec 13).signExtend 32 = f.imm := by
    rw [BitVec.extractLsb'_append_extractLsb'_eq_extractLsb' (start₁ := 11) (start₂ := 12) rfl,
      BitVec.extractLsb'_append_extractLsb'_eq_extractLsb' (start₁ := 5) (start₂ := 11) rfl,
      BitVec.extractLsb'_append_extractLsb'_eq_extractLsb' (start₁ := 1) (start₂ := 5) rfl,
      extractLsb'_one_append_zero heven]
    exact signExtend_low_of_fits (n := 13) (by decide) (by decide) hlo (by omega)
  simp (disch := decide) only [decodeB, encB, immB_eq_wImmB, wImmB, opcodeOf, funct3Of, rs1Of, rs2Of,
    BitVec.extractLsb'_or, extractLsb'_place_same, extractLsb'_place_disjoint, BitVec.or_zero, BitVec.zero_or, himm]

theorem decodeU_encU {f : UFields} (h : immFitsU f.imm) : decodeU (encU f) = f := by
  have himm : (f.imm.extractLsb' 12 20 ++ 0#12 : BitVec 32) = f.imm := by
    have hlow : f.imm.extractLsb' 0 12 = 0#12 := by
      apply BitVec.eq_of_toNat_eq
      simpa using h
    rw [← hlow, BitVec.extractLsb'_append_extractLsb'_eq_extractLsb' (start₁ := 0) (start₂ := 12) rfl]
    exact BitVec.extractLsb'_eq_self
  simp (disch := decide) only [decodeU, encU, immU_eq_wImmU, wImmU, opcodeOf, rdOf,
    BitVec.extractLsb'_or, extractLsb'_place_same, extractLsb'_place_disjoint, BitVec.or_zero, BitVec.zero_or, himm]

theorem decodeJ_encJ {f : JFields} (h : immFits21 f.imm) : decodeJ (encJ f) = f := by
  obtain ⟨hlo, hhi, heven⟩ := h
  have himm : (f.imm.extractLsb' 20 1 ++ f.imm.extractLsb' 12 8 ++ f.imm.extractLsb' 11 1 ++ f.imm.extractLsb' 1 10 ++
      0#1 : BitVec 21).signExtend 32 = f.imm := by
    rw [BitVec.extractLsb'_append_extractLsb'_eq_extractLsb' (start₁ := 12) (start₂ := 20) rfl,
      BitVec.extractLsb'_append_extractLsb'_eq_extractLsb' (start₁ := 11) (start₂ := 12) rfl,
      BitVec.extractLsb'_append_extractLsb'_eq_extractLsb' (start₁ := 1) (start₂ := 11) rfl,
      extractLsb'_one_append_zero heven]
    exact signExtend_low_of_fits (n := 21) (by decide) (by decide) hlo (by omega)
  simp (disch := decide) only [decodeJ, encJ, immJ_eq_wImmJ, wImmJ, opcodeOf, rdOf,
    BitVec.extractLsb'_or, extractLsb'_place_same, extractLsb'_place_disjoint, BitVec.or_zero, BitVec.zero_or, himm]

/-- Settles O2: an immediate in range is the sign extension of the bits its format keeps; the fields of each format tile
the word. -/
theorem formatRoundTrip : Obligations.FormatRoundTrip :=
  ⟨decodeR_encR, fun _ => decodeI_encI, fun _ => decodeS_encS, fun _ => decodeB_encB, fun _ => decodeU_encU,
    fun _ => decodeJ_encJ, decodeR4_encR4, fun w => ⟨encR_decodeR w, encI_decodeI w, encS_decodeS w, encB_decodeB w,
      encU_decodeU w, encJ_decodeJ w, encR4_decodeR4 w⟩⟩

/-! ## The slot at the key of an instruction's own word -/

section
variable {i : Instr} (g : Group)

/-- A word whose decoded fields are `f` decodes to what the group of `f`'s opcode finds at `f` (R115). -/
theorem decode_of_fields {F : Type} {w : Word} {f : F} (dec : Word → F) (opcode : F → BitVec 7)
    (find : F → Option Instr) (hdec : dec w = f) (hop : opcode f = g.opcode) (hi : find f = some i)
    (hopcode : ∀ w, opcodeOf w = opcode (dec w)) (hlookup : ∀ w, g.lookup w = find (dec w)) : decode w = .ok i := by
  subst hdec
  exact decode_eq_ok.mpr ⟨g, (hopcode w).trans hop, (hlookup w).trans hi⟩

theorem decode_encR {f : RFields} (find : RFields → Option Instr) (hop : f.opcode = g.opcode) (hi : find f = some i)
    (hlookup : ∀ w, g.lookup w = find (decodeR w)) : decode (encR f) = .ok i :=
  decode_of_fields g decodeR RFields.opcode find (decodeR_encR f) hop hi (fun _ => rfl) hlookup

theorem decode_encI {f : IFields} (find : IFields → Option Instr) (hfits : immFits12 f.imm) (hop : f.opcode = g.opcode)
    (hi : find f = some i) (hlookup : ∀ w, g.lookup w = find (decodeI w)) : decode (encI f) = .ok i :=
  decode_of_fields g decodeI IFields.opcode find (decodeI_encI hfits) hop hi (fun _ => rfl) hlookup

theorem decode_encS {f : SFields} (find : SFields → Option Instr) (hfits : immFits12 f.imm) (hop : f.opcode = g.opcode)
    (hi : find f = some i) (hlookup : ∀ w, g.lookup w = find (decodeS w)) : decode (encS f) = .ok i :=
  decode_of_fields g decodeS SFields.opcode find (decodeS_encS hfits) hop hi (fun _ => rfl) hlookup

theorem decode_encB {f : BFields} (find : BFields → Option Instr) (hfits : immFits13 f.imm) (hop : f.opcode = g.opcode)
    (hi : find f = some i) (hlookup : ∀ w, g.lookup w = find (decodeB w)) : decode (encB f) = .ok i :=
  decode_of_fields g decodeB BFields.opcode find (decodeB_encB hfits) hop hi (fun _ => rfl) hlookup

theorem decode_encU {f : UFields} (find : UFields → Option Instr) (hfits : immFitsU f.imm) (hop : f.opcode = g.opcode)
    (hi : find f = some i) (hlookup : ∀ w, g.lookup w = find (decodeU w)) : decode (encU f) = .ok i :=
  decode_of_fields g decodeU UFields.opcode find (decodeU_encU hfits) hop hi (fun _ => rfl) hlookup

theorem decode_encJ {f : JFields} (find : JFields → Option Instr) (hfits : immFits21 f.imm) (hop : f.opcode = g.opcode)
    (hi : find f = some i) (hlookup : ∀ w, g.lookup w = find (decodeJ w)) : decode (encJ f) = .ok i :=
  decode_of_fields g decodeJ JFields.opcode find (decodeJ_encJ hfits) hop hi (fun _ => rfl) hlookup

theorem decode_encR4 {f : R4Fields} (find : R4Fields → Option Instr) (hop : f.opcode = g.opcode) (hi : find f = some i)
    (hlookup : ∀ w, g.lookup w = find (decodeR4 w)) : decode (encR4 f) = .ok i :=
  decode_of_fields g decodeR4 R4Fields.opcode find (decodeR4_encR4 f) hop hi (fun _ => rfl) hlookup

end

section
variable (hi : BitVec 7) (lo : BitVec 5)

theorem immFits12_immOf : immFits12 (immOf hi lo) := by
  rw [immOf, show place hi 5 ||| place lo 0 = place (hi ++ lo) 0 from (place_append hi lo 0).symm,
    sext_place (by decide) (by decide)]
  exact signExtend_range (n := 12) (by decide) _

theorem immHi_immOf : immHi (immOf hi lo) = hi := by
  simp (disch := decide) only [immHi, immOf, extractLsb'_sext, BitVec.extractLsb'_or, extractLsb'_place_same,
    extractLsb'_place_disjoint, BitVec.or_zero]

theorem immLo_immOf : immLo (immOf hi lo) = lo := by
  simp (disch := decide) only [immLo, immOf, extractLsb'_sext, BitVec.extractLsb'_or, extractLsb'_place_same,
    extractLsb'_place_disjoint, BitVec.zero_or]

end

section
variable {op f7 : BitVec 7} {rd rs1 rs2 : RegIdx} {f3 : BitVec 3}

theorem fpKey_of_rm (hrm : f7 ∈ rmSet) (hrs : f7 ∉ rs2Set) : fpKey ⟨op, rd, f3, rs1, rs2, f7⟩ = (f7, 0, 0) := by
  rw [fpKey, if_pos hrm, if_neg hrs]

theorem fpKey_of_rs2 (hrs : f7 ∈ rs2Set) : fpKey ⟨op, rd, f3, rs1, rs2, f7⟩ = (f7, 0, rs2) := by
  rw [fpKey, if_pos (rs2Set_subset_rmSet _ hrs), if_pos hrs]

theorem fpKey_of_funct3 (hrm : f7 ∉ rmSet) : fpKey ⟨op, rd, f3, rs1, rs2, f7⟩ = (f7, f3, 0) := by
  rw [fpKey, if_neg hrm, if_neg (mt (rs2Set_subset_rmSet _) hrm)]

end

theorem decode_of_fpKey {f : RFields} {i : Instr} {key : BitVec 7 × BitVec 3 × BitVec 5} (hop : f.opcode = 0x53#7)
    (hkey : fpKey f = key) (hi : (slotAt opFpSlots key).map (· f) = some i) : decode (encR f) = .ok i :=
  decode_encR .opFp (fun f => (slotAt opFpSlots (fpKey f)).map (· f)) hop (hkey ▸ hi) fun _ => rfl

/-- The word of a SYSTEM instruction, whose immediate is its key (R122). -/
theorem decode_of_systemKey {f : IFields} {i : Instr} {key : Int} (hop : f.opcode = 0x73#7) (hfits : immFits12 f.imm)
    (hkey : f.imm.toInt = key) (hi : (slotAt systemSlots key).map (· f) = some i) : decode (encI f) = .ok i :=
  decode_encI .system (fun f => (slotAt systemSlots f.imm.toInt).map (· f)) hfits hop (hkey ▸ hi)
    fun _ => by rw [Group.lookup]

/-- Settles O4: the fields of the word are the instruction's own, so its group finds its slot at their key. -/
theorem decodeOfEncode : Obligations.DecodeOfEncode := by
  intro i hwf
  cases i with
  | lui => exact decode_encU .lui (fun f => some (.lui f.rd f.imm)) (of_decide_eq_true hwf) rfl rfl fun _ => rfl
  | auipc => exact decode_encU .auipc (fun f => some (.auipc f.rd f.imm)) (of_decide_eq_true hwf) rfl rfl fun _ => rfl
  | jal => exact decode_encJ .jal (fun f => some (.jal f.rd f.imm)) (of_decide_eq_true hwf) rfl rfl fun _ => rfl
  | jalr =>
    exact decode_encI .jalr (fun f => some (.jalr f.rd f.funct3 f.rs1 f.imm)) (of_decide_eq_true hwf) rfl rfl
      fun _ => rfl
  | fence =>
    exact decode_encI .miscMem (fun f => some (.fence f.rd f.funct3 f.rs1 f.imm)) (of_decide_eq_true hwf) rfl rfl
      fun _ => rfl
  | fmaddS =>
    exact decode_encR4 .madd (fun f => some (.fmaddS f.rd f.rs1 f.rs2 f.rs3 f.rm f.fmt)) rfl rfl fun _ => rfl
  | fmsubS =>
    exact decode_encR4 .msub (fun f => some (.fmsubS f.rd f.rs1 f.rs2 f.rs3 f.rm f.fmt)) rfl rfl fun _ => rfl
  | fnmsubS =>
    exact decode_encR4 .nmsub (fun f => some (.fnmsubS f.rd f.rs1 f.rs2 f.rs3 f.rm f.fmt)) rfl rfl fun _ => rfl
  | fnmaddS =>
    exact decode_encR4 .nmadd (fun f => some (.fnmaddS f.rd f.rs1 f.rs2 f.rs3 f.rm f.fmt)) rfl rfl fun _ => rfl
  | lb | lh | lw | lbu | lhu =>
    exact decode_encI .load (fun f => (slotAt loadSlots f.funct3).map (· f)) (of_decide_eq_true hwf) rfl rfl
      fun _ => rfl
  | sb | sh | sw =>
    exact decode_encS .store (fun f => (slotAt storeSlots f.funct3).map (· f)) (of_decide_eq_true hwf) rfl rfl
      fun _ => rfl
  | beq | bne | blt | bge | bltu | bgeu =>
    exact decode_encB .branch (fun f => (slotAt branchSlots f.funct3).map (· f)) (of_decide_eq_true hwf) rfl rfl
      fun _ => rfl
  | addi | slti | sltiu | xori | ori | andi =>
    exact decode_encI .opImm (fun f => (slotAt opImmSlots (opImmKey f)).map (· f)) (of_decide_eq_true hwf) rfl rfl
      fun _ => rfl
  | slli | srli | srai | clz | ctz | cpop | sextB | sextH | rori | orcB | rev8 =>
    refine decode_encI .opImm (fun f => (slotAt opImmSlots (opImmKey f)).map (· f)) (immFits12_immOf _ _) rfl ?_
      fun _ => rfl
    simp [opImmKey, immHi_immOf, immLo_immOf, opImmSlots, slotAt]
  | add | sub | sll | slt | sltu | xor | srl | sra | or | and | mul | mulh | mulhsu | mulhu | div | divu | rem | remu
  | andn | orn | xnor | min | max | minu | maxu | zextH | rol | ror =>
    refine decode_encR .op (fun f => (slotAt opSlots (opKey f)).map (· f)) rfl ?_ fun _ => rfl
    simp [opKey, opSlots, slotAt]
  | faddS | fsubS | fmulS | fdivS | fsqrtS =>
    exact decode_of_fpKey rfl (fpKey_of_rm (by decide) (by decide)) rfl
  | fsgnjS | fsgnjnS | fsgnjxS | fminS | fmaxS | fmvXW | fmvWX | feqS | fltS | fleS | fclassS =>
    exact decode_of_fpKey rfl (fpKey_of_funct3 (by decide)) rfl
  | fcvtWS | fcvtWUS | fcvtSW | fcvtSWU => exact decode_of_fpKey rfl (fpKey_of_rs2 (by decide)) rfl
  | ecall => exact decode_of_systemKey (key := 0) rfl (show immFits12 0 by decide) rfl rfl
  | ebreak => exact decode_of_systemKey (key := 1) rfl (show immFits12 1 by decide) rfl rfl

end Sys2Proof.Claims
end

section
/-! SUPPORT. The decoder against the opcode map: what it answers is well-formed, and a word of a row finds that row's
slot. Then the statements on decoded words and on the rows of the opcode map. -/

namespace Sys2Proof.Claims

open Sys2Proof.Machine

/-! ## What the decoder answers is well-formed (R107) -/

theorem loadSlots_wf : ∀ p ∈ loadSlots, ∀ f, immFits12 f.imm → (p.2 f).wf = true := by
  rw [← List.forall_iff_forall_mem]
  and_intros <;> exact fun _ => decide_eq_true

theorem opImmSlots_wf : ∀ p ∈ opImmSlots, ∀ f, immFits12 f.imm → (p.2 f).wf = true := by
  rw [← List.forall_iff_forall_mem]
  and_intros <;> exact fun _ h => by simp [Instr.wf, h.1, h.2]

theorem storeSlots_wf : ∀ p ∈ storeSlots, ∀ f, immFits12 f.imm → (p.2 f).wf = true := by
  rw [← List.forall_iff_forall_mem]
  and_intros <;> exact fun _ => decide_eq_true

theorem branchSlots_wf : ∀ p ∈ branchSlots, ∀ f, immFits13 f.imm → (p.2 f).wf = true := by
  rw [← List.forall_iff_forall_mem]
  and_intros <;> exact fun _ => decide_eq_true

theorem opSlots_wf : ∀ p ∈ opSlots, ∀ f, (p.2 f).wf = true := by
  rw [← List.forall_iff_forall_mem]
  and_intros <;> exact fun _ => rfl

theorem opFpSlots_wf : ∀ p ∈ opFpSlots, ∀ f, (p.2 f).wf = true := by
  rw [← List.forall_iff_forall_mem]
  and_intros <;> exact fun _ => rfl

theorem systemSlots_wf : ∀ p ∈ systemSlots, ∀ f, (p.2 f).wf = true := by
  rw [← List.forall_iff_forall_mem]
  and_intros <;> exact fun _ => rfl

theorem wf_of_slot {K F : Type} [DecidableEq K] {table : List (K × (F → Instr))} {key : K} {f : F} {i : Instr}
    (htable : ∀ p ∈ table, (p.2 f).wf = true) (h : (slotAt table key).map (· f) = some i) : i.wf = true := by
  obtain ⟨slot, hslot, rfl⟩ := Option.map_eq_some_iff.mp h
  exact htable _ (mem_of_slotAt hslot)

theorem immFitsU_immU (w : Word) : immFitsU (immU w) := by
  have hlow : (immU w).extractLsb' 0 12 = 0#12 := extractLsb'_place_disjoint _ (by decide)
  simpa using congrArg BitVec.toNat hlow

theorem wf_of_decode {w : Word} {i : Instr} (h : decode w = .ok i) : i.wf = true := by
  obtain ⟨g, -, hi⟩ := decode_eq_ok.mp h
  obtain ⟨⟨-, hI⟩, ⟨-, hS⟩, ⟨-, hB⟩, -, ⟨-, hJ⟩⟩ := immediateValues w
  have hU := immFitsU_immU w
  cases g with
  | load => exact wf_of_slot (fun p hp => loadSlots_wf p hp (decodeI w) hI) hi
  | opImm => exact wf_of_slot (fun p hp => opImmSlots_wf p hp (decodeI w) hI) hi
  | store => exact wf_of_slot (fun p hp => storeSlots_wf p hp (decodeS w) hS) hi
  | branch => exact wf_of_slot (fun p hp => branchSlots_wf p hp (decodeB w) hB) hi
  | op => exact wf_of_slot (fun p hp => opSlots_wf p hp _) hi
  | opFp => exact wf_of_slot (fun p hp => opFpSlots_wf p hp _) hi
  | system =>
    simp only [Group.lookup] at hi
    exact wf_of_slot (fun p hp => systemSlots_wf p hp _) hi
  | miscMem | jalr => cases hi; exact decide_eq_true (p := immFits12 (immI w)) hI
  | auipc | lui => cases hi; exact decide_eq_true (p := immFitsU (immU w)) hU
  | jal => cases hi; exact decide_eq_true (p := immFits21 (immJ w)) hJ
  | madd | msub | nmsub | nmadd => cases hi; rfl

/-- Settles O5: no bit of the word is dropped (`encode_of_decode`), and every decoded immediate lies in its range. -/
theorem encodeOfDecode : Obligations.EncodeOfDecode := fun _ _ h => ⟨encode_of_decode h, wf_of_decode h⟩

/-! ## A word of a row finds the row's slot (R134, R135) -/

section
variable {w w' : Word} {i : Instr}

theorem mask_keeps_opcode (i : Instr) : i.row.2.extractLsb' 0 7 = BitVec.allOnes 7 := by
  cases i <;> (rw [Instr.row]; rfl)

/-- Two words of one row agree on every field that the row's mask keeps. -/
theorem field_eq_of_inRow {lo n : Nat} {mask : Word} (hw : InRow w i) (hw' : InRow w' i) (hmask : i.row.2 = mask)
    (hkeep : mask.extractLsb' lo n = BitVec.allOnes n) : w.extractLsb' lo n = w'.extractLsb' lo n := by
  subst hmask
  exact (extractLsb'_of_and_eq hw hkeep).trans (extractLsb'_of_and_eq hw' hkeep).symm

theorem row_of_slot {K F : Type} [DecidableEq K] {table : List (K × (F → Instr))} {row : K → Word × Word} {key : K}
    {f : F} (htable : ∀ p ∈ table, ∀ f, (p.2 f).row = row p.1) (h : (slotAt table key).map (· f) = some i) :
    i.row = row key := by
  obtain ⟨slot, hslot, rfl⟩ := Option.map_eq_some_iff.mp h
  exact htable _ (mem_of_slotAt hslot) f

/-- The slot at a key answers at any fields, in the same row. -/
theorem exists_slot_of_key_eq {K F : Type} [DecidableEq K] {table : List (K × (F → Instr))} {row : K → Word × Word}
    {key key' : K} {f f' : F} (htable : ∀ p ∈ table, ∀ f, (p.2 f).row = row p.1) (hkey : key = key')
    (h : (slotAt table key').map (· f') = some i) : ∃ j, (slotAt table key).map (· f) = some j ∧ j.row = i.row := by
  subst hkey
  obtain ⟨slot, hslot, rfl⟩ := Option.map_eq_some_iff.mp h
  have hrow := htable _ (mem_of_slotAt hslot)
  exact ⟨slot f, by rw [hslot]; rfl, (hrow f).trans (hrow f').symm⟩

theorem opKey_eq_of_inRow (hrow : i.row = opRow (opKey (decodeR w'))) (hw : InRow w i) (hw' : InRow w' i) :
    opKey (decodeR w) = opKey (decodeR w') := by
  have hmask : i.row.2 = 0xFE00707F := congrArg Prod.snd hrow
  have h7 : funct7Of w = funct7Of w' := field_eq_of_inRow hw hw' hmask rfl
  have h3 : funct3Of w = funct3Of w' := field_eq_of_inRow hw hw' hmask rfl
  simp only [opKey, decodeR, h7, h3]

/-- The row of an OP-IMM slot keeps the fields that its key is read from (R119). -/
theorem opImmKey_eq_of_inRow (hrow : i.row = opImmRow (opImmKey (decodeI w'))) (hw : InRow w i) (hw' : InRow w' i) :
    opImmKey (decodeI w) = opImmKey (decodeI w') := by
  simp only [opImmKey, decodeI, immHi_immI, immLo_immI] at hrow ⊢
  by_cases hf3 : funct3Of w' ≠ 0b001#3 ∧ funct3Of w' ≠ 0b101#3
  · rw [if_pos hf3, opImmRow, if_pos hf3] at hrow
    have hmask : i.row.2 = 0x0000707F := congrArg Prod.snd hrow
    have h3 : funct3Of w = funct3Of w' := field_eq_of_inRow hw hw' hmask rfl
    simp only [h3, if_pos hf3]
  rw [if_neg hf3] at hrow
  by_cases hf7 : funct3Of w' = 0b001#3 ∧ funct7Of w' = 0b0110000#7
  · rw [if_pos hf7, opImmRow, if_neg hf3, if_pos hf7] at hrow
    have hmask : i.row.2 = 0xFFF0707F := congrArg Prod.snd hrow
    have h3 : funct3Of w = funct3Of w' := field_eq_of_inRow hw hw' hmask rfl
    have h7 : funct7Of w = funct7Of w' := field_eq_of_inRow hw hw' hmask rfl
    have h2 : rs2Of w = rs2Of w' := field_eq_of_inRow hw hw' hmask rfl
    rw [h3, h7, h2]
  · rw [if_neg hf7, opImmRow, if_neg hf3, if_neg hf7] at hrow
    have hmask : i.row.2 = 0xFE00707F := congrArg Prod.snd hrow
    have h3 : funct3Of w = funct3Of w' := field_eq_of_inRow hw hw' hmask rfl
    have h7 : funct7Of w = funct7Of w' := field_eq_of_inRow hw hw' hmask rfl
    simp only [h3, h7, if_neg hf3, if_neg hf7]

/-- The row of an OP-FP slot keeps the fields that its key is read from (R123). -/
theorem keepsFpKey_fpRow (f7 : BitVec 7) (f3 : BitVec 3) (rs2 : BitVec 5) : KeepsFpKey (fpRow (f7, f3, rs2)).2 f7 := by
  rw [fpRow]
  by_cases hrs : f7 ∈ rs2Set <;> by_cases hrm : f7 ∈ rmSet
  · simp only [if_pos hrs, if_pos hrm]
    exact ⟨rfl, rfl, absurd hrm, fun _ => rfl⟩
  · simp only [if_pos hrs, if_neg hrm]
    exact ⟨rfl, rfl, fun _ => rfl, fun _ => rfl⟩
  · simp only [if_neg hrs, if_pos hrm]
    exact ⟨rfl, rfl, absurd hrm, fun h => absurd h hrs⟩
  · simp only [if_neg hrs, if_neg hrm]
    exact ⟨rfl, rfl, fun _ => rfl, fun h => absurd h hrs⟩

theorem fpKey_eq_of_inRow (hrow : i.row = fpRow (fpKey (decodeR w'))) (hw : InRow w i) (hw' : InRow w' i) :
    fpKey (decodeR w) = fpKey (decodeR w') := by
  have hkeep : KeepsFpKey i.row.2 (funct7Of w') := hrow ▸ keepsFpKey_fpRow ..
  have h7 : funct7Of i.row.1 = funct7Of w' := (extractLsb'_of_and_eq hw' hkeep.2.1).symm
  rw [← h7] at hkeep
  exact (fpKey_of_and_eq hw hkeep).trans (fpKey_of_and_eq hw' hkeep).symm

/-- A word of the row of an instruction that some word decodes to decodes to an instruction of that row: the row keeps
the opcode and every field that the group's key is read from. -/
theorem exists_decode_of_inRow (hi : decode w' = .ok i) (hw : InRow w i) : ∃ j, decode w = .ok j ∧ j.row = i.row := by
  have hw' := inRow_of_decode hi
  obtain ⟨g, hop, hlookup⟩ := decode_eq_ok.mp hi
  suffices h : ∃ j, g.lookup w = some j ∧ j.row = i.row by
    obtain ⟨j, hj, hrow⟩ := h
    exact ⟨j, decode_eq_ok.mpr ⟨g, (field_eq_of_inRow hw hw' rfl (mask_keeps_opcode i)).trans hop, hj⟩, hrow⟩
  cases g with
  | load =>
    have hmask : i.row.2 = 0x0000707F := congrArg Prod.snd (row_of_slot loadSlots_row hlookup)
    exact exists_slot_of_key_eq loadSlots_row (field_eq_of_inRow hw hw' hmask rfl) hlookup
  | store =>
    have hmask : i.row.2 = 0x0000707F := congrArg Prod.snd (row_of_slot storeSlots_row hlookup)
    exact exists_slot_of_key_eq storeSlots_row (field_eq_of_inRow hw hw' hmask rfl) hlookup
  | branch =>
    have hmask : i.row.2 = 0x0000707F := congrArg Prod.snd (row_of_slot branchSlots_row hlookup)
    exact exists_slot_of_key_eq branchSlots_row (field_eq_of_inRow hw hw' hmask rfl) hlookup
  | op => exact exists_slot_of_key_eq opSlots_row (opKey_eq_of_inRow (row_of_slot opSlots_row hlookup) hw hw') hlookup
  | opImm =>
    have hrow := row_of_slot opImmSlots_row hlookup
    exact exists_slot_of_key_eq opImmSlots_row (opImmKey_eq_of_inRow hrow hw hw') hlookup
  | opFp =>
    exact exists_slot_of_key_eq opFpSlots_row (fpKey_eq_of_inRow (row_of_slot opFpSlots_row hlookup) hw hw') hlookup
  | system =>
    simp only [Group.lookup] at hlookup ⊢
    have hmask : i.row.2 = 0xFFF0007F := congrArg Prod.snd (row_of_slot systemSlots_row hlookup)
    have himm : w.extractLsb' 20 12 = w'.extractLsb' 20 12 := field_eq_of_inRow hw hw' hmask rfl
    exact exists_slot_of_key_eq systemSlots_row (by simp only [decodeI, immI, himm]) hlookup
  | _ => cases hlookup; exact ⟨_, rfl, rfl⟩

end

/-- An instruction with its immediate at 0 is well-formed, in the same row. -/
theorem exists_wf_of_imm (mk : Word → Instr) (imm : Word) (hwf : (mk 0).wf = true) (hrow : (mk 0).row = (mk imm).row) :
    ∃ j : Instr, j.wf = true ∧ j.row = (mk imm).row := ⟨mk 0, hwf, hrow⟩

theorem exists_wf_row (i : Instr) : ∃ j : Instr, j.wf = true ∧ j.row = i.row := by
  cases i with
  | lui _ imm | auipc _ imm | jal _ imm | jalr _ _ _ imm | fence _ _ _ imm | beq _ _ imm | bne _ _ imm | blt _ _ imm
  | bge _ _ imm | bltu _ _ imm | bgeu _ _ imm | lb _ _ imm | lh _ _ imm | lw _ _ imm | lbu _ _ imm | lhu _ _ imm
  | sb _ _ imm | sh _ _ imm | sw _ _ imm | addi _ _ imm | slti _ _ imm | sltiu _ _ imm | xori _ _ imm | ori _ _ imm
  | andi _ _ imm => exact exists_wf_of_imm _ imm rfl rfl
  | _ => exact ⟨_, rfl, rfl⟩

/-- A word of an instruction's row decodes to an instruction of that row. -/
theorem exists_decode_row {w : Word} {i : Instr} (hw : InRow w i) : ∃ j, decode w = .ok j ∧ j.row = i.row := by
  obtain ⟨j, hwf, hrow⟩ := exists_wf_row i
  rw [← hrow]
  exact exists_decode_of_inRow (decodeOfEncode j hwf) (by rwa [InRow, hrow])

/-- Settles O6: a word of a row finds the row's slot, and a decoded instruction has its word in its row; decoding
answers at most one instruction, so two rows of one word are one row. -/
theorem opcodeMapRows : Obligations.OpcodeMapRows := by
  refine ⟨fun w i => ⟨exists_decode_row, ?_⟩, fun w i j hi hj => ?_⟩
  · rintro ⟨j, hj, hrow⟩
    rw [← hrow]
    exact inRow_of_decode hj
  · obtain ⟨a, ha, hrowa⟩ := exists_decode_row hi
    obtain ⟨b, hb, hrowb⟩ := exists_decode_row hj
    cases ha.symm.trans hb
    exact hrowa.symm.trans hrowb

end Sys2Proof.Claims
end

section
/-! SUPPORT. Words in no row, and words by the fields that the registry's keys read (30_encoding.md §6). Then the
statements on illegal words, aliases and sample words. -/

namespace Sys2Proof.Claims

open Sys2Proof.Machine

/-! ## Illegal words -/

theorem Group.opcode_mem_opcodes (g : Group) : g.opcode ∈ opcodes := by cases g <;> decide

theorem decode_of_opcode_not_mem {w : Word} (hop : opcodeOf w ∉ opcodes) : decode w = .error .unknownOpcode := by
  have hgroup : groupOf (opcodeOf w) = none :=
    Option.eq_none_iff_forall_ne_some.mpr fun g h => hop (groupOf_eq_some.mp h ▸ Group.opcode_mem_opcodes g)
  simp only [decode, hgroup]

theorem exists_group_of_mem_opcodes : ∀ op ∈ opcodes, ∃ g : Group, op = g.opcode := by
  have htable : ∀ op ∈ opcodes, groupOf op ≠ none := by decide
  intro op hop
  obtain ⟨g, hg⟩ := Option.ne_none_iff_exists'.mp (htable op hop)
  exact ⟨g, groupOf_eq_some.mp hg⟩

/-- A group's opcode without a row: an answer of the group would have the word in its row (R115). -/
theorem decode_of_not_inRow {w : Word} (hop : opcodeOf w ∈ opcodes) (hrow : ∀ i, ¬ InRow w i) :
    decode w = .error .unknownInstruction := by
  obtain ⟨g, hg⟩ := exists_group_of_mem_opcodes _ hop
  refine decode_of_lookup_eq_none hg (Option.eq_none_iff_forall_ne_some.mpr fun i hi => hrow i ?_)
  exact inRow_of_decode (decode_eq_ok.mpr ⟨g, hg, hi⟩)

/-- Settles O7: an opcode has a group exactly when it is listed, and a group's miss is a word in no row. -/
theorem illegalWordsStop : Obligations.IllegalWordsStop := by
  have hlow : ∀ op ∈ opcodes, op.extractLsb' 0 2 = 0b11#2 := by decide
  refine ⟨fun s w hr hw => ⟨fun hop => ?_, fun hop hrow => ?_⟩, by decide +kernel, by decide,
    fun op hne hop => hne (hlow op hop), ?_⟩
  · exact step_of_decode_error hr (fetches_iff_fetch.mp hw) (decode_of_opcode_not_mem hop)
  · exact step_of_decode_error hr (fetches_iff_fetch.mp hw) (decode_of_not_inRow hop hrow)
  refine ⟨rfl, rfl, rfl, fun w hop h3 => decode_of_lookup_eq_none (g := .branch) hop ?_, rfl, ?_, ?_, ?_, rfl⟩
  · have hkey : funct3Of w = 0b010#3 := h3
    have hslot : slotAt branchSlots (decodeB w).funct3 = none := by rw [decodeB, hkey]; rfl
    rw [Group.lookup, hslot, Option.map_none]
  all_goals decide +kernel

/-! ## Aliases -/

section
variable {w mtch : Word} {mk : Word → Instr}

theorem decode_of_opcode (h : Spells mtch 0x0000007F mk) (op : BitVec 7) (hm : place op 0 = mtch)
    (hop : w.extractLsb' 0 7 = op) : decode w = .ok (mk w) :=
  (h w).mp (by rw [and_maskOpcode, opcodeOf, hop, hm])

theorem decode_of_imm (h : Spells mtch 0xFFF0007F mk) (op : BitVec 7) (imm : BitVec 12)
    (hm : place imm 20 ||| place op 0 = mtch) (hop : w.extractLsb' 0 7 = op) (himm : w.extractLsb' 20 12 = imm) :
    decode w = .ok (mk w) := by
  have hfields : funct7Of w ++ rs2Of w = imm := by
    rw [← himm]
    exact BitVec.extractLsb'_append_extractLsb'_eq_extractLsb' (start₁ := 20) (len₁ := 5) rfl
  have hplace : place imm 20 = place (funct7Of w) 25 ||| place (rs2Of w) 20 := hfields ▸ place_append ..
  exact (h w).mp (by rw [and_maskImm, opcodeOf, hop, ← hplace, hm])

theorem decode_of_funct7 (h : Spells mtch 0xFE00007F mk) (op f7 : BitVec 7) (hm : place f7 25 ||| place op 0 = mtch)
    (hop : w.extractLsb' 0 7 = op) (h7 : w.extractLsb' 25 7 = f7) : decode w = .ok (mk w) :=
  (h w).mp (by rw [and_maskFunct7, opcodeOf, hop, funct7Of, h7, hm])

theorem decode_of_funct7_funct3 (h : Spells mtch 0xFE00707F mk) (op f7 : BitVec 7) (f3 : BitVec 3)
    (hm : place f7 25 ||| place f3 12 ||| place op 0 = mtch) (hop : w.extractLsb' 0 7 = op)
    (h7 : w.extractLsb' 25 7 = f7) (h3 : wF3 w = f3) : decode w = .ok (mk w) :=
  (h w).mp (by rw [and_maskFunct7Funct3, opcodeOf, hop, funct7Of, h7, funct3Of, ← wF3, h3, hm])

theorem decode_of_funct7_rs2 (h : Spells mtch 0xFFF0007F mk) (op f7 : BitVec 7) (rs2 : BitVec 5)
    (hm : place f7 25 ||| place rs2 20 ||| place op 0 = mtch) (hop : w.extractLsb' 0 7 = op)
    (h7 : w.extractLsb' 25 7 = f7) (h2 : wRs2 w = rs2) : decode w = .ok (mk w) :=
  (h w).mp (by rw [and_maskImm, opcodeOf, hop, funct7Of, h7, rs2Of, ← wRs2, h2, hm])

end

/-- Settles O8: the rows' own statements, under masks that leave out the field in question. -/
theorem aliasesExecute : Obligations.AliasesExecute := by
  intro w
  obtain ⟨-, hjalr, -⟩ := jumps
  obtain ⟨hfmadd, -, hfmsub, -, hfnmsub, -, hfnmadd, -⟩ := fusedMultiplyAdd
  obtain ⟨hfadd, -, hfsub, -, hfmul, -, hfdiv, -, hfsqrt, -⟩ := floatArithmetic
  obtain ⟨-, -, -, hfmvXW, -, hfmvWX, -⟩ := bitPatternMoves
  obtain ⟨-, -, -, hfclass, -⟩ := compareAndClassify
  obtain ⟨hfcvtWS, -, hfcvtWUS, -⟩ := floatToInteger
  obtain ⟨hfcvtSW, -, hfcvtSWU, -⟩ := integerToFloat
  obtain ⟨-, -, -, -, -, ⟨hzextH, -⟩, -, ⟨horcB, -⟩, ⟨hrev8, -⟩, -⟩ := bitManipulationOneRegister
  exact ⟨decode_of_imm spells_ecall _ _ rfl, decode_of_imm spells_ebreak _ _ rfl, decode_of_opcode spells_fence _ rfl,
    decode_of_opcode hjalr _ rfl, decode_of_opcode hfmadd _ rfl, decode_of_opcode hfmsub _ rfl,
    decode_of_opcode hfnmsub _ rfl, decode_of_opcode hfnmadd _ rfl, decode_of_funct7 hfadd _ _ rfl,
    decode_of_funct7 hfsub _ _ rfl, decode_of_funct7 hfmul _ _ rfl, decode_of_funct7 hfdiv _ _ rfl,
    decode_of_funct7 hfsqrt _ _ rfl, decode_of_funct7_funct3 hfmvXW _ _ _ rfl,
    decode_of_funct7_funct3 hfclass _ _ _ rfl, decode_of_funct7_funct3 hfmvWX _ _ _ rfl,
    decode_of_funct7_rs2 hfcvtWS _ _ _ rfl, decode_of_funct7_rs2 hfcvtWUS _ _ _ rfl,
    decode_of_funct7_rs2 hfcvtSW _ _ _ rfl, decode_of_funct7_rs2 hfcvtSWU _ _ _ rfl,
    decode_of_funct7_funct3 hzextH _ _ _ rfl, decode_of_funct7_funct3 horcB _ _ _ rfl,
    decode_of_funct7_funct3 hrev8 _ _ _ rfl⟩

/-- Settles O1: each word is decoded. -/
theorem sampleWordsDecode : Obligations.SampleWordsDecode := by
  unfold Obligations.SampleWordsDecode
  decide +kernel

end Sys2Proof.Claims
end

section
/-! SUPPORT. The reset state, and the states that take no step. Then the remaining tier 1 statements, and that on which
states step. -/

namespace Sys2Proof.Claims

open Sys2Proof.Machine

theorem zeroFile_getElem (k : Nat) (hk : k < 32) : zeroFile[k] = .val 0#32 := Vector.getElem_replicate hk

/-- Settles O12: every cell of both files holds 0, and the other components are the launch's. -/
theorem resetState : Obligations.ResetState := by
  refine ⟨fun r => ⟨?_, hasF_iff_readF.mp (zeroFile_getElem _ _)⟩, rfl, fun _ => rfl, rfl, rfl, rfl, rfl⟩
  by_cases hr : r = 0#5
  · rw [hr, State.readX_zero]
  · rw [State.readX_eq_ok, xCell_of_ne_zero hr]
    exact (getElem_set_of_ne (r := 0#5) hr).trans (zeroFile_getElem _ _)

/-- Settles O13: memory is empty, and cell 0 holds 0. -/
theorem resetInvariant : Obligations.ResetInvariant where
  memWf := rfl
  memInBuffer _ _ := rfl
  xZero := rfl
  paramsWf := by decide

/-- Settles O16: fetch and lookup answer the instruction. -/
theorem stepRunsDecodedInstruction : Obligations.StepRunsDecodedInstruction := fun _ _ => step_of_runs

theorem step_of_not_running {s : State} (hr : s.run ≠ .running) : step s = .fault .notRunning := by
  unfold step
  cases hrun : s.run with
  | running => exact absurd hrun hr
  | halted _ => rfl
  | faulted _ => rfl

/-- Settles O18: a running state's step answers (`step_answers`), any other is the model's fault. -/
theorem stepEnabledIffRunning : Obligations.StepEnabledIffRunning := by
  refine fun s => ⟨⟨fun ⟨t, ht⟩ => (step_cases ht).1, step_answers⟩, step_of_not_running, fun r h => ?_⟩
  by_cases hr : s.run = .running
  · obtain ⟨t, ht⟩ := step_answers hr
    cases ht.symm.trans h
  · cases (step_of_not_running hr).symm.trans h

/-- Settles O57: by each of the 13 stop outcomes. -/
theorem stopReasonCodes : Obligations.StopReasonCodes := by
  have hrange : ∀ r : StopReason, 1 ≤ r.code ∧ r.code ≤ 13 := by
    intro r
    cases r <;> simp [StopReason.code]
  exact ⟨hrange, rfl, rfl, rfl, rfl, fun _ => ⟨rfl, rfl, rfl, rfl⟩, fun _ _ => rfl, fun _ => rfl, rfl, fun _ _ => rfl,
    fun _ _ => rfl⟩

end Sys2Proof.Claims
end

section
/-! SUPPORT. What an instruction does to the registers, memory and the host's state, by its effects: frames, and the
invariant. Then the frame statements and that on the invariant. -/

namespace Sys2Proof.Claims

open Sys2Proof.Machine

variable {i : Instr} {s t : State}

/-! ## Registers -/

theorem destX_of_isEcall (hi : i.isEcall = true) : i.destX = some regA0 := by
  obtain ⟨rd, f3, rs1, rfl⟩ := isEcall_iff.mp hi
  rfl

/-- An instruction writes its integer destination or leaves the integer file as it is. -/
theorem effect_x (h : Effect i s t) : t.x = s.x ∨ ∃ rd v, i.destX = some rd ∧ t.x = (s.writeX rd v).x := by
  cases h with
  | writeX rd v hd => exact .inr ⟨rd, v, hd, rfl⟩
  | link rd target hd hc => exact .inr ⟨rd, s.pc + 4, hd, rfl⟩
  | hostWrite buf len hi | hostRead buf len hi => exact .inr ⟨regA0, _, destX_of_isEcall hi, rfl⟩
  | _ => exact .inl rfl

/-- An instruction writes its float destination or leaves the float file as it is. -/
theorem effect_f (h : Effect i s t) : t.f = s.f ∨ ∃ rd v, i.destF = some rd ∧ t.f = (s.writeF rd v).f := by
  cases h with
  | writeF rd v hd => exact .inr ⟨rd, v, hd, rfl⟩
  | writeX | link | hostWrite | hostRead => exact .inl (by simp [State.hostWrite, State.hostRead])
  | _ => exact .inl rfl

theorem writeX_getElem_of_ne {r rd : RegIdx} {v : Word} (h : r = 0#5 ∨ r ≠ rd) :
    (s.writeX rd v).x[r.toNat] = s.x[r.toNat] := by
  by_cases hrd : rd = 0#5
  · simp [hrd]
  · have hne : r ≠ rd := h.elim (fun h0 => h0 ▸ Ne.symm hrd) id
    simp only [State.writeX_x, if_neg hrd, getElem_set_of_ne hne]

theorem effect_x_getElem (h : Effect i s t) {r : RegIdx} (hr : r = 0#5 ∨ i.destX ≠ some r) :
    t.x[r.toNat] = s.x[r.toNat] := by
  obtain hx | ⟨rd, v, hd, hx⟩ := effect_x h
  · rw [hx]
  · rw [hx, writeX_getElem_of_ne (hr.imp_right fun hne heq => hne (heq ▸ hd))]

theorem effect_f_getElem (h : Effect i s t) {r : RegIdx} (hr : i.destF ≠ some r) : t.f[r.toNat] = s.f[r.toNat] := by
  obtain hf | ⟨rd, v, hd, hf⟩ := effect_f h
  · rw [hf]
  · rw [hf, State.writeF_f, getElem_set_of_ne fun heq : r = rd => hr (heq ▸ hd)]

/-! ## Memory -/

/-- An instruction leaves memory as it is, or stores the bytes of a store, or of a read call. -/
theorem effect_mem (h : Effect i s t) :
    t.mem = s.mem ∨
    (∃ rs1 imm n base data, i.storeForm = some (rs1, imm, n) ∧ HasX s rs1 base ∧ s.InRange (base + imm) n ∧
      t.mem = s.mem.writeBytes (base + imm).toNat (bytesOf data n)) ∨
    ∃ buf len bytes, i.isEcall = true ∧ HasX s a7 63 ∧ HasX s a1 buf ∧ HasX s a2 len ∧
      (0 < len.toNat → s.InRange buf len.toNat) ∧ bytes.length ≤ len.toNat ∧
      t.mem = s.mem.writeBytes buf.toNat bytes := by
  cases h with
  | store rs1 imm n base data hs hb hr =>
    exact .inr (.inl ⟨rs1, imm, n, base, data, hs, hasX_iff_readX.mpr hb, hr, rfl⟩)
  | hostRead buf len hi h7 h0 h1 h2 hr =>
    refine .inr (.inr ⟨buf, len, _, hi, hasX_iff_readX.mpr h7, hasX_iff_readX.mpr h1, hasX_iff_readX.mpr h2, hr,
      hostBytes_length_le s.hostDraws len.toNat, ?_⟩)
    simp [State.hostRead]
  | writeX | link | hostWrite => exact .inl (by simp [State.hostWrite])
  | _ => exact .inl rfl

/-- Whatever an instruction writes to memory lies in the buffer. -/
theorem effect_mem_span (h : Effect i s t) :
    ∃ a bytes, (0 < bytes.length → a + bytes.length ≤ s.params.memSize) ∧ t.mem = s.mem.writeBytes a bytes := by
  obtain hm | ⟨rs1, imm, n, base, data, -, -, hr, hm⟩ | ⟨buf, len, bytes, -, -, -, -, hr, hlen, hm⟩ := effect_mem h
  · exact ⟨0, [], fun h => absurd h (Nat.lt_irrefl 0), hm⟩
  · exact ⟨_, _, fun _ => by rwa [bytesOf_length], hm⟩
  · refine ⟨_, bytes, fun hpos => ?_, hm⟩
    have : s.InRange buf len.toNat := hr (by omega)
    omega

/-! ## The parameters and the host's state -/

theorem effect_params (h : Effect i s t) : t.params = s.params := by
  cases h with
  | writeX | link | hostWrite | hostRead => simp [State.hostWrite, State.hostRead]
  | _ => rfl

theorem effect_hostDraws (h : Effect i s t) (hi : i.isEcall = false) : t.hostDraws = s.hostDraws := by
  cases h with
  | hostWrite _ _ hi' | hostRead _ _ hi' => exact absurd hi' (by simp [hi])
  | writeX | link => simp
  | _ => rfl

/-! ## The invariant -/

theorem inv_of_effect (hs : s.Inv) (h : Effect i s t) : t.Inv := by
  obtain ⟨a, bytes, hspan, hm⟩ := effect_mem_span h
  refine ⟨hm ▸ Memory.wf_writeBytes hs.memWf a bytes, fun c hc => ?_, ?_, effect_params h ▸ hs.paramsWf⟩
  · rw [effect_params h] at hc
    rw [hm, Memory.read_writeBytes_outside hs.memWf (by omega)]
    exact hs.memInBuffer c hc
  · exact (effect_x_getElem h (r := 0#5) (.inl rfl)).trans hs.xZero

/-! ## The statements -/

/-- Settles O14: a stop outcome sets `run` alone, and each effect of an instruction keeps the invariant. -/
theorem stepKeepsInvariant : Obligations.StepKeepsInvariant := by
  intro s t hs ht
  obtain ⟨e, w, rfl⟩ | ⟨i, -, he⟩ := step_raises_or_runs ht
  · exact ⟨hs.memWf, hs.memInBuffer, hs.xZero, hs.paramsWf⟩
  · exact inv_of_effect hs he

/-- Settles O22: by the effects on the integer file (`effect_x`). -/
theorem integerRegisterFrame : Obligations.IntegerRegisterFrame :=
  fun _ _ _ ht _ hr => effect_x_getElem (exec_effect ht) hr

/-- Settles O23: by the effects on the float file (`effect_f`). -/
theorem floatRegisterFrame : Obligations.FloatRegisterFrame :=
  fun _ _ _ ht _ hr => effect_f_getElem (exec_effect ht) hr

/-- Settles O24: memory changes by a store's bytes or a read call's alone (`effect_mem`). -/
theorem memoryFrame : Obligations.MemoryFrame := by
  intro i s t hwf ht a hstore hread
  obtain hm | ⟨rs1, imm, n, base, data, hs, hb, -, hm⟩ | ⟨buf, len, bytes, hi, h7, h1, h2, -, hlen, hm⟩ :=
    effect_mem (exec_effect ht)
  · rw [hm]
  · have hout := hstore rs1 imm n base hs hb
    rw [hm, Memory.read_writeBytes_outside hwf (by rwa [bytesOf_length])]
  · have hout := hread hi h7 buf len h1 h2
    rw [hm, Memory.read_writeBytes_outside hwf (by omega)]

/-- Settles O25: by the effects on each component; only ECALL's are on the log and the draws. -/
theorem hostStateFrame : Obligations.HostStateFrame := by
  intro i s t ht
  have he := exec_effect ht
  refine ⟨effect_params he, fun hi => ⟨?_, effect_hostDraws he hi, ?_⟩⟩
  · obtain hlog | ⟨hi', -⟩ := effect_hostLog he
    · exact hlog
    · exact absurd hi' (by simp [hi])
  · obtain hrun | hrun | ⟨_, -, hi', -⟩ := effect_run he
    · exact .inl hrun
    · exact .inr hrun
    · exact absurd hi' (by simp [hi])

end Sys2Proof.Claims
end

section
/-! SUPPORT. Bytes read back after a write. Then the statements on memory accesses and on a store to the next
instruction's address. -/

namespace Sys2Proof.Claims

open Sys2Proof.Machine

variable {m m' : Memory} {a n : Nat} {v : Word}

theorem read_of_storedAt (h : StoredAt m m' a n v) {k : Nat} (hk : k < n) :
    m'.read (a + k) = v.extractLsb' (8 * k) 8 := by
  rw [h.2, if_pos ⟨Nat.le_add_right a k, Nat.add_lt_add_left hk a⟩, Nat.add_sub_cancel_left]

theorem halfAt_of_storedAt (h : StoredAt m m' a 4 v) : halfAt m' (a + 1) = v.extractLsb' 8 16 := by
  rw [halfAt, read_of_storedAt h (k := 1) (by decide), Nat.add_assoc, read_of_storedAt h (k := 2) (by decide)]
  exact BitVec.extractLsb'_append_extractLsb'_eq_extractLsb' rfl

theorem wordAt_of_storedAt (h : StoredAt m m' a 4 v) : wordAt m' a = v := by
  have h0 : m'.read a = v.extractLsb' 0 8 := read_of_storedAt h (k := 0) (by decide)
  have h3 : v.extractLsb' 24 8 ++ v.extractLsb' 16 8 = v.extractLsb' 16 16 :=
    BitVec.extractLsb'_append_extractLsb'_eq_extractLsb' rfl
  have h2 : v.extractLsb' 16 16 ++ v.extractLsb' 8 8 = v.extractLsb' 8 24 :=
    BitVec.extractLsb'_append_extractLsb'_eq_extractLsb' rfl
  have h1 : v.extractLsb' 8 24 ++ v.extractLsb' 0 8 = v.extractLsb' 0 32 :=
    BitVec.extractLsb'_append_extractLsb'_eq_extractLsb' rfl
  rw [wordAt, h0, read_of_storedAt h (k := 1) (by decide), read_of_storedAt h (k := 2) (by decide),
    read_of_storedAt h (k := 3) (by decide), h3, h2, h1]
  exact BitVec.extractLsb'_eq_self

/-- Settles O27: reads are the bytes' concatenation, and a stored word's bytes read back as they were placed. -/
theorem memoryAccess : Obligations.MemoryAccess := by
  refine ⟨fun m a => ⟨read8_eq_setWidth m a, read16_eq_setWidth m a, read32_eq_wordAt m a⟩,
    fun m a n v hm => storedAt_writeBytes hm a n v, fun m a v hm => ?_,
    fun s addr n => ⟨Iff.rfl, fun hp hwrap hr => ?_⟩⟩
  · have hstored := storedAt_writeBytes hm a 4 v
    refine ⟨?_, ?_, ?_⟩
    · rw [read32_eq_wordAt, wordAt_of_storedAt hstored]
    · rw [read8_eq_setWidth, read_of_storedAt hstored (by decide)]
    · rw [read16_eq_setWidth, halfAt_of_storedAt hstored]
  · have hsize := hp.2
    omega

/-- Settles O28: the store passes its checks, and the next fetch reads back the bytes it left (`wordAt_of_storedAt`). -/
theorem storeSeenByNextFetch : Obligations.StoreSeenByNextFetch := by
  intro s rs1 rs2 imm base data hm hpc hb hd haddr hr
  have halign : (s.pc + 4).toNat % 4 = 0 := by bv_omega
  have hcheck : s.checkAccess (s.pc + 4) 4 (.storeMisaligned (s.pc + 4)) (.storeOutOfRange (s.pc + 4)) = .ok () :=
    State.checkAccess_eq_ok.mpr ⟨fun h => h.2 halign, hr⟩
  refine ⟨_, by rw [exec, execSw, store_of_hasX hb hd, haddr, hcheck]; rfl, ?_⟩
  rw [fetch_ok halign hr]
  exact congrArg _ (wordAt_of_storedAt (storedAt_writeBytes hm _ 4 data))

end Sys2Proof.Claims
end

section
/-! SUPPORT. Where every register holds a value, no operand form raises UnwrittenRegister. Then the statement on
registers that stay written. -/

namespace Sys2Proof.Claims

open Sys2Proof.Machine

/-- The action raises no UnwrittenRegister, and what it answers has `P`. -/
def Answers {α : Type} (P : α → Prop) : Except StopReason α → Prop
  | .ok v => P v
  | .error e => ∀ file index, e ≠ .unwrittenRegister file index

theorem Answers.bind {α β : Type} {P : β → Prop} {a : Except StopReason α} {k : α → Except StopReason β}
    (ha : Answers (fun _ => True) a) (hk : ∀ v, Answers P (k v)) : Answers P (a >>= k) := by
  cases a with
  | ok v => exact hk v
  | error e => exact ha

theorem answers_error {α : Type} {P : α → Prop} {e : StopReason}
    (he : ∀ file index, e ≠ .unwrittenRegister file index) : Answers P (.error e) := he

def NotFaulted (t : State) : Prop := ∀ r, t.run ≠ .faulted r

/-! ## Reads and checks -/

section
variable {s : State}

theorem answers_readX (hs : s.AllWritten) (r : RegIdx) : Answers (fun _ => True) (s.readX r) := by
  cases h : s.readX r with
  | ok v => trivial
  | error e => exact absurd ((State.readX_eq_error s).mp h).1 (hs.1 r)

theorem answers_readF (hs : s.AllWritten) (r : RegIdx) : Answers (fun _ => True) (s.readF r) := by
  cases h : s.readF r with
  | ok v => trivial
  | error e => exact absurd ((State.readF_eq_error s).mp h).1 (hs.2 r)

theorem answers_roundMode (rm : BitVec 3) : Answers (fun _ => True) (roundMode rm) := by
  rw [roundMode]
  split_ifs
  any_goals trivial
  exact answers_error nofun

theorem answers_checkAccess {misaligned outOfRange : StopReason} (addr : Word) (n : Nat)
    (hm : ∀ file index, misaligned ≠ .unwrittenRegister file index)
    (ho : ∀ file index, outOfRange ≠ .unwrittenRegister file index) :
    Answers (fun _ => True) (s.checkAccess addr n misaligned outOfRange) := by
  rw [State.checkAccess]
  split_ifs
  · exact hm
  · trivial
  · exact ho

theorem answers_checkBuffer (buf len : Word) : Answers (fun _ => True) (s.checkBuffer buf len) := by
  rw [State.checkBuffer]
  split_ifs
  · exact answers_error nofun
  · trivial

theorem answers_fetch : Answers (fun _ => True) s.fetch := by
  rw [State.fetch]
  split_ifs
  · exact answers_error nofun
  · trivial
  · exact answers_error nofun

end

/-! ## Operand forms -/

section
variable {s : State} (hs : s.AllWritten) (hr : s.run = .running) {rd rs1 rs2 rs3 : RegIdx} {imm : Word} {n : Nat}
  {rm : BitVec 3}

theorem answers_ok {t : State} (hr : s.run = .running) (h : t.run = s.run) : Answers NotFaulted (.ok t) := by
  simp [Answers, NotFaulted, h, hr]

include hr

theorem answers_setX (v : Word) : Answers NotFaulted (s.setX rd v) := answers_ok hr (by simp)

theorem answers_setF (v : Word) : Answers NotFaulted (s.setF rd v) := answers_ok hr rfl

include hs

theorem answers_opX {g : Word → Word} : Answers NotFaulted (s.opX rd rs1 g) :=
  (answers_readX hs rs1).bind fun _ => answers_setX hr _

theorem answers_opXX {g : Word → Word → Word} : Answers NotFaulted (s.opXX rd rs1 rs2 g) :=
  (answers_readX hs rs1).bind fun _ => (answers_readX hs rs2).bind fun _ => answers_setX hr _

theorem answers_branch {c : Word → Word → Bool} : Answers NotFaulted (s.branch rs1 rs2 imm c) := by
  refine (answers_readX hs rs1).bind fun _ => (answers_readX hs rs2).bind fun _ => answers_ok hr ?_
  split_ifs <;> rfl

theorem answers_load {g : Memory → Nat → Word} : Answers NotFaulted (s.load rd rs1 imm n g) :=
  (answers_readX hs rs1).bind fun _ => (answers_checkAccess _ n (by simp) (by simp)).bind fun _ => answers_setX hr _

theorem answers_store : Answers NotFaulted (s.store rs1 rs2 imm n) :=
  (answers_readX hs rs1).bind fun _ => (answers_readX hs rs2).bind fun _ =>
    (answers_checkAccess _ n (by simp) (by simp)).bind fun _ => answers_ok hr rfl

theorem answers_opFF {g : Word → Word → Word} : Answers NotFaulted (s.opFF rd rs1 rs2 g) :=
  (answers_readF hs rs1).bind fun _ => (answers_readF hs rs2).bind fun _ => answers_setF hr _

theorem answers_opFFrm {g : RoundMode → Word → Word → Word} : Answers NotFaulted (s.opFFrm rd rs1 rs2 rm g) :=
  (answers_roundMode rm).bind fun _ => answers_opFF hs hr

theorem answers_opFrm {g : RoundMode → Word → Word} : Answers NotFaulted (s.opFrm rd rs1 rm g) :=
  (answers_roundMode rm).bind fun _ => (answers_readF hs rs1).bind fun _ => answers_setF hr _

theorem answers_opFFFrm {g : RoundMode → Word → Word → Word → Word} :
    Answers NotFaulted (s.opFFFrm rd rs1 rs2 rs3 rm g) :=
  (answers_roundMode rm).bind fun _ => (answers_readF hs rs1).bind fun _ => (answers_readF hs rs2).bind fun _ =>
    (answers_readF hs rs3).bind fun _ => answers_setF hr _

theorem answers_opXFF {g : Word → Word → Word} : Answers NotFaulted (s.opXFF rd rs1 rs2 g) :=
  (answers_readF hs rs1).bind fun _ => (answers_readF hs rs2).bind fun _ => answers_setX hr _

theorem answers_opXF {g : Word → Word} : Answers NotFaulted (s.opXF rd rs1 g) :=
  (answers_readF hs rs1).bind fun _ => answers_setX hr _

theorem answers_opFX {g : Word → Word} : Answers NotFaulted (s.opFX rd rs1 g) :=
  (answers_readX hs rs1).bind fun _ => answers_setF hr _

/-! ## The system instructions -/

omit hr in
theorem answers_ecallExit : Answers NotFaulted s.ecallExit :=
  (answers_readX hs regA0).bind fun _ _ => nofun

theorem answers_ecallWrite : Answers NotFaulted s.ecallWrite := by
  refine (answers_readX hs regA0).bind fun fd => (answers_readX hs regA1).bind fun buf =>
    (answers_readX hs regA2).bind fun len => ?_
  split_ifs
  · exact answers_error nofun
  · exact (answers_checkBuffer buf len).bind fun _ => answers_ok hr (by simp)

theorem answers_ecallRead : Answers NotFaulted s.ecallRead := by
  refine (answers_readX hs regA0).bind fun fd => (answers_readX hs regA1).bind fun buf =>
    (answers_readX hs regA2).bind fun len => ?_
  split_ifs
  · exact answers_error nofun
  · exact (answers_checkBuffer buf len).bind fun _ => answers_ok hr (by simp)

theorem answers_ecall : Answers NotFaulted s.ecall := by
  refine (answers_readX hs regA7).bind fun n => ?_
  split_ifs
  · exact answers_ecallExit hs
  · exact answers_ecallWrite hs hr
  · exact answers_ecallRead hs hr
  · exact answers_error nofun

/-! ## All instructions -/

/-- Where every register holds a value, an instruction ends an action that raises no UnwrittenRegister. -/
theorem exec_answers_written (i : Instr) : ∃ a, exec i s = complete i s a ∧ Answers NotFaulted a := by
  cases i with
  | lui | auipc => exact ⟨_, rfl, answers_setX hr _⟩
  | jal => exact ⟨_, rfl, answers_ok hr (by simp)⟩
  | jalr rd _ rs1 => exact ⟨_, rfl, (answers_readX hs rs1).bind fun _ => answers_ok hr (by simp)⟩
  | beq | bne | blt | bge | bltu | bgeu => exact ⟨_, rfl, answers_branch hs hr⟩
  | lb | lh | lw | lbu | lhu => exact ⟨_, rfl, answers_load hs hr⟩
  | sb | sh | sw => exact ⟨_, rfl, answers_store hs hr⟩
  | addi | slti | sltiu | xori | ori | andi | slli | srli | srai | clz | ctz | cpop | sextB | sextH | zextH | rori
  | orcB | rev8 => exact ⟨_, rfl, answers_opX hs hr⟩
  | add | sub | sll | slt | sltu | xor | srl | sra | or | and | mul | mulh | mulhsu | mulhu | div | divu | rem | remu
  | andn | orn | xnor | min | max | minu | maxu | rol | ror => exact ⟨_, rfl, answers_opXX hs hr⟩
  | fence => exact ⟨_, rfl, answers_ok hr s.advance_run⟩
  | ecall => exact ⟨_, rfl, answers_ecall hs hr⟩
  | ebreak => exact ⟨_, rfl, answers_error nofun⟩
  | faddS | fsubS | fmulS | fdivS => exact ⟨_, rfl, answers_opFFrm hs hr⟩
  | fsqrtS => exact ⟨_, rfl, answers_opFrm hs hr⟩
  | fmaddS | fmsubS | fnmsubS | fnmaddS => exact ⟨_, rfl, answers_opFFFrm hs hr⟩
  | fsgnjS | fsgnjnS | fsgnjxS | fminS | fmaxS => exact ⟨_, rfl, answers_opFF hs hr⟩
  | fcvtWS | fcvtWUS | fmvXW | fclassS => exact ⟨_, rfl, answers_opXF hs hr⟩
  | fcvtSW | fcvtSWU | fmvWX => exact ⟨_, rfl, answers_opFX hs hr⟩
  | feqS | fltS | fleS => exact ⟨_, rfl, answers_opXFF hs hr⟩

end

/-! ## The statement -/

section
variable {i : Instr} {s t : State}

theorem allWritten_of_effect (hs : s.AllWritten) (h : Effect i s t) : t.AllWritten := by
  obtain ⟨hx, hf⟩ := hs
  refine ⟨fun r => ?_, fun r => ?_⟩
  · obtain h | ⟨rd, v, -, h⟩ := effect_x h
    · rw [State.xCell_congr h]
      exact hx r
    · rw [State.xCell_congr h, State.xCell_writeX]
      split_ifs
      · exact nofun
      · exact hx r
  · obtain h | ⟨rd, v, -, h⟩ := effect_f h
    · rw [State.fCell_congr h]
      exact hf r
    · rw [State.fCell_congr h, State.fCell_writeF]
      split_ifs
      · exact nofun
      · exact hf r

/-- A stop outcome that the next state records is none of UnwrittenRegister's. -/
def RecordsNoUnwritten (t : State) : Prop :=
  ∀ (file : RegFile) (index : RegIdx) (pc : Word) (word : Option Word),
    t.run ≠ .faulted { reason := .unwrittenRegister file index, pc := pc, word := word }

theorem recordsNoUnwritten_raise {e : StopReason} {w : Option Word}
    (he : ∀ file index, e ≠ .unwrittenRegister file index) : RecordsNoUnwritten (s.raise e w) := by
  intro file index pc word h
  injection h with h
  injection h with h
  exact he file index h

theorem recordsNoUnwritten_of_complete {a : Act} (ha : Answers NotFaulted a) (h : complete i s a = .next t) :
    RecordsNoUnwritten t := by
  obtain rfl | ⟨e, rfl, rfl⟩ := complete_eq_next.mp h
  · exact fun _ _ _ _ => ha _
  · exact recordsNoUnwritten_raise ha

theorem recordsNoUnwritten_of_step (hs : s.AllWritten) (h : step s = .next t) : RecordsNoUnwritten t := by
  obtain ⟨hr, ⟨e, hfetch, rfl⟩ | ⟨w, -, ⟨e, -, rfl⟩ | ⟨i, -, hexec⟩⟩⟩ := step_cases h
  · have hno := answers_fetch (s := s)
    rw [hfetch] at hno
    exact recordsNoUnwritten_raise hno
  · cases e <;> exact recordsNoUnwritten_raise nofun
  · obtain ⟨a, ha, hno⟩ := exec_answers_written hs hr i
    exact recordsNoUnwritten_of_complete hno (ha.symm.trans hexec)

end

/-- Settles O15: an instruction writes values alone, and every read it makes finds one. -/
theorem stepKeepsRegistersWritten : Obligations.StepKeepsRegistersWritten := by
  intro s t hs ht
  refine ⟨?_, recordsNoUnwritten_of_step hs ht⟩
  obtain ⟨e, w, rfl⟩ | ⟨i, -, he⟩ := step_raises_or_runs ht
  · exact hs
  · exact allWritten_of_effect hs he

end Sys2Proof.Claims
end

section
/-! SUPPORT. The double word of a product, and the signed division of bit vectors. Then the statement on the laws of
44_multiply_divide.md. -/

namespace Sys2Proof.Claims

open Sys2Proof.Machine

/-! ## Products -/

section
variable (a b : Word)

theorem mulLow_eq_mul : mulLow a b = a * b := by
  rw [mulLow, BitVec.ofInt_mul, BitVec.ofInt_toInt, BitVec.ofInt_toInt]

theorem ofInt_toInt_mul_toNat : BitVec.ofInt 32 (a.toInt * b.toNat) = a * b := by
  rw [BitVec.ofInt_mul, BitVec.ofInt_toInt, BitVec.ofInt_natCast, BitVec.ofNat_toNat, BitVec.setWidth_eq]

theorem abs_toInt_le : |a.toInt| ≤ 2 ^ 31 :=
  abs_le.mpr ⟨BitVec.le_toInt a, (BitVec.toInt_lt (x := a)).le⟩

end

/-- The high and the low word of an integer that fits a signed double word. -/
theorem toInt_high_add_low {z : ℤ} (hz : |z| < 2 ^ 63) :
    (BitVec.ofInt 32 (z / 2 ^ 32)).toInt * 2 ^ 32 + (BitVec.ofInt 32 z).toNat = z := by
  obtain ⟨hlo, hhi⟩ := abs_lt.mp hz
  have hhigh : (BitVec.ofInt 32 (z / 2 ^ 32)).toInt = z / 2 ^ 32 :=
    BitVec.toInt_ofInt_eq_self (by decide) (by omega) (by omega)
  have hlow : ((BitVec.ofInt 32 z).toNat : ℤ) = z % 2 ^ 32 := by
    rw [BitVec.toNat_ofInt]
    exact Int.toNat_of_nonneg (by omega)
  rw [hhigh, hlow]
  omega

theorem abs_mul_lt {x y : ℤ} (hx : |x| ≤ 2 ^ 31) (hy : |y| < 2 ^ 32) : |x * y| < 2 ^ 63 := by
  have hy0 := abs_nonneg y
  calc |x * y| = |x| * |y| := abs_mul x y
    _ ≤ 2 ^ 31 * |y| := by gcongr
    _ < 2 ^ 63 := by omega

theorem mulHigh_add_mulLow (a b : Word) : (mulHigh a b).toInt * 2 ^ 32 + (mulLow a b).toNat = a.toInt * b.toInt :=
  toInt_high_add_low (abs_mul_lt (abs_toInt_le a) ((abs_toInt_le b).trans_lt (by decide)))

theorem mulHighSU_add_mulLow (a b : Word) :
    (mulHighSU a b).toInt * 2 ^ 32 + (mulLow a b).toNat = a.toInt * b.toNat := by
  have hb : |(b.toNat : ℤ)| < 2 ^ 32 := by
    have := b.isLt
    rw [Nat.abs_cast]
    omega
  rw [mulHighSU, mulLow_eq_mul, ← ofInt_toInt_mul_toNat]
  exact toInt_high_add_low (abs_mul_lt (abs_toInt_le a) hb)

theorem mulHighU_add_mulLow (a b : Word) :
    (mulHighU a b).toNat * 2 ^ 32 + (mulLow a b).toNat = a.toNat * b.toNat := by
  have hlt : a.toNat * b.toNat < 2 ^ 32 * 2 ^ 32 := Nat.mul_lt_mul'' a.isLt b.isLt
  rw [mulHighU, mulLow_eq_mul, BitVec.toNat_ofNat, BitVec.toNat_mul]
  generalize a.toNat * b.toNat = z at hlt
  omega

/-! ## Quotients and remainders -/

section
variable {a b : Word}

theorem toInt_divS (hb : b ≠ 0#32) (ho : ¬ (a = 0x80000000#32 ∧ b = 0xFFFFFFFF#32)) :
    (divS a b).toInt = a.toInt.tdiv b.toInt := by
  have hcorner : a ≠ BitVec.intMin 32 ∨ b ≠ -1#32 := not_and_or.mp ho
  rw [divS, if_neg (mt toInt_eq_zero_iff.mp hb), if_neg (mt toInt_overflow_iff.mp ho),
    ← BitVec.toInt_sdiv_of_ne_or_ne a b hcorner, BitVec.ofInt_toInt]

theorem toInt_remS (hb : b ≠ 0#32) (ho : ¬ (a = 0x80000000#32 ∧ b = 0xFFFFFFFF#32)) :
    (remS a b).toInt = a.toInt.tmod b.toInt := by
  rw [remS, if_neg (mt toInt_eq_zero_iff.mp hb), if_neg (mt toInt_overflow_iff.mp ho), ← BitVec.toInt_srem,
    BitVec.ofInt_toInt]

theorem abs_tmod_lt (x : ℤ) {y : ℤ} (hy : y ≠ 0) : |x.tmod y| < |y| := by
  rw [Int.abs_eq_natAbs, Int.abs_eq_natAbs, Int.natAbs_tmod]
  exact_mod_cast Nat.mod_lt _ (Int.natAbs_pos.mpr hy)

theorem toNat_divU (hb : b ≠ 0#32) : (divU a b).toNat = a.toNat / b.toNat := by
  rw [divU, if_neg hb, BitVec.toNat_ofNat, Nat.mod_eq_of_lt]
  exact (Nat.div_le_self _ _).trans_lt a.isLt

theorem toNat_remU (hb : b ≠ 0#32) : (remU a b).toNat = a.toNat % b.toNat := by
  rw [remU, if_neg hb, BitVec.toNat_ofNat, Nat.mod_eq_of_lt]
  exact (Nat.mod_le _ _).trans_lt a.isLt

theorem toNat_pos_of_ne_zero (hb : b ≠ 0#32) : 0 < b.toNat :=
  Nat.pos_of_ne_zero fun h => hb (BitVec.eq_of_toNat_eq h)

end

/-- Settles O42: the truncated and the natural quotient with their remainders, and the double word of each product. -/
theorem multiplyDivideLaws : Obligations.MultiplyDivideLaws := by
  refine ⟨fun a b hb ho => ?_, fun a b hb => ?_, fun a => ⟨rfl, rfl, rfl, rfl⟩, by decide, fun a b =>
    ⟨mulHighU_add_mulLow a b, mulHigh_add_mulLow a b, mulHighSU_add_mulLow a b⟩, fun a b => ⟨?_, ?_, ?_⟩,
    ⟨0xFFFFFFFF, 1, by decide⟩⟩
  · rw [toInt_divS hb ho, toInt_remS hb ho]
    exact ⟨Int.tdiv_mul_add_tmod _ _, abs_tmod_lt _ (mt toInt_eq_zero_iff.mp hb)⟩
  · rw [toNat_divU hb, toNat_remU hb]
    exact ⟨Nat.div_add_mod' _ _, Nat.mod_lt _ (toNat_pos_of_ne_zero hb)⟩
  · rw [mulLow, mulLow, mul_comm]
  · rw [mulHigh, mulHigh, mul_comm]
  · rw [mulHighU, mulHighU, mul_comm]

end Sys2Proof.Claims
end

section
/-! SUPPORT. The set bits of a word as a finite set, between its least and its greatest. Then the statement on the laws
of 46_bitmanip.md. -/

namespace Sys2Proof.Claims

open Sys2Proof.Machine

/-! ## The count law -/

/-- The indices of the set bits. -/
def setBits (a : Word) : Finset ℕ := (Finset.range 32).filter fun k => a.getLsbD k

section
variable {a : Word} {lo hi k : ℕ}

theorem mem_setBits : k ∈ setBits a ↔ a.getLsbD k = true := by
  rw [setBits, Finset.mem_filter, Finset.mem_range, and_iff_right_of_imp]
  exact fun h => BitVec.lt_of_getLsbD h

theorem lt_of_mem_setBits (h : k ∈ setBits a) : k < 32 := BitVec.lt_of_getLsbD (mem_setBits.mp h)

theorem setBits_nonempty (ha : a ≠ 0#32) : (setBits a).Nonempty := by
  by_contra hempty
  refine ha (BitVec.eq_of_getLsbD_eq fun k _ => ?_)
  rw [BitVec.getLsbD_zero, ← Bool.not_eq_true, ← mem_setBits]
  exact fun hk => hempty ⟨k, hk⟩

theorem getLsbD_eq_false_of_not_mem (h : k ∉ setBits a) : a.getLsbD k = false :=
  Bool.not_eq_true _ ▸ mt mem_setBits.mpr h

theorem toNat_countSet (a : Word) : (countSet a).toNat = (setBits a).card := by
  have hle : (setBits a).card ≤ 32 := (Finset.card_filter_le _ _).trans_eq (Finset.card_range 32)
  rw [countSet_eq_card, BitVec.toNat_ofNat, Nat.mod_eq_of_lt]
  · rfl
  · exact hle.trans_lt (by decide)

theorem toNat_countLeading (hhi : IsGreatest (setBits a : Set ℕ) hi) : (countLeading a).toNat = 31 - hi := by
  obtain ⟨hmem, hge⟩ := hhi
  have hclear (j : ℕ) (hj : hi < j) : a.getLsbD j = false :=
    getLsbD_eq_false_of_not_mem fun hmem => absurd (hge hmem) (Nat.not_le.mpr hj)
  rw [(countLeading_spec a).2 hi (lt_of_mem_setBits hmem) (mem_setBits.mp hmem) hclear, BitVec.toNat_ofNat]
  omega

theorem toNat_countTrailing (hlo : IsLeast (setBits a : Set ℕ) lo) : (countTrailing a).toNat = lo := by
  obtain ⟨hmem, hle⟩ := hlo
  have hlt : lo < 32 := lt_of_mem_setBits hmem
  have hclear (j : ℕ) (hj : j < lo) : a.getLsbD j = false :=
    getLsbD_eq_false_of_not_mem fun hmem => absurd (hle hmem) (Nat.not_le.mpr hj)
  rw [(countTrailing_spec a).2 lo hlt (mem_setBits.mp hmem) hclear, BitVec.toNat_ofNat]
  omega

/-- The set bits lie between the least and the greatest of them, so they number as many as that span exactly when they
fill it. -/
theorem counts_eq_iff (hlo : IsLeast (setBits a : Set ℕ) lo) (hhi : IsGreatest (setBits a : Set ℕ) hi) :
    (countLeading a).toNat + (countTrailing a).toNat + (countSet a).toNat = 32 ↔ setBits a = Finset.Icc lo hi := by
  have hsub : setBits a ⊆ Finset.Icc lo hi := fun k hk => Finset.mem_Icc.mpr ⟨hlo.2 hk, hhi.2 hk⟩
  have hle : lo ≤ hi := hlo.2 hhi.1
  have hlt : hi < 32 := lt_of_mem_setBits hhi.1
  rw [toNat_countLeading hhi, toNat_countTrailing hlo, toNat_countSet]
  constructor
  · intro hsum
    refine Finset.eq_of_subset_of_card_le hsub ?_
    rw [Nat.card_Icc]
    omega
  · intro heq
    rw [heq, Nat.card_Icc]
    omega

theorem setBits_eq_Icc_iff : setBits a = Finset.Icc lo hi ↔ ∀ k, a.getLsbD k = true ↔ lo ≤ k ∧ k ≤ hi := by
  simp only [Finset.ext_iff, mem_setBits, Finset.mem_Icc]

end

theorem countLaw (a : Word) : (countLeading a).toNat + (countTrailing a).toNat + (countSet a).toNat = 32 ↔
    ∃ lo hi, lo ≤ hi ∧ hi < 32 ∧ ∀ k, a.getLsbD k = true ↔ lo ≤ k ∧ k ≤ hi := by
  constructor
  · intro hsum
    have ha : a ≠ 0#32 := by
      rintro rfl
      exact absurd hsum (by decide)
    have hlo := (setBits a).isLeast_min' (setBits_nonempty ha)
    have hhi := (setBits a).isGreatest_max' (setBits_nonempty ha)
    exact ⟨_, _, hlo.2 hhi.1, lt_of_mem_setBits hhi.1, setBits_eq_Icc_iff.mp ((counts_eq_iff hlo hhi).mp hsum)⟩
  · rintro ⟨lo, hi, hle, -, hbits⟩
    have hset : setBits a = Finset.Icc lo hi := setBits_eq_Icc_iff.mpr hbits
    have hcoe : (setBits a : Set ℕ) = Set.Icc lo hi := by rw [hset, Finset.coe_Icc]
    exact (counts_eq_iff (hcoe ▸ isLeast_Icc hle) (hcoe ▸ isGreatest_Icc hle)).mpr hset

/-! ## Rotations and bytes -/

theorem rotateLeft_eq_rotateRight (a : Word) {n : BitVec 5} (hn : n ≠ 0#5) :
    rotateLeft a n = rotateRight a (BitVec.ofNat 5 (32 - n.toNat)) := by
  have hpos : n.toNat ≠ 0 := fun h => hn (BitVec.eq_of_toNat_eq h)
  have hlt := n.isLt
  have hcomplement : (BitVec.ofNat 5 (32 - n.toNat)).toNat = 32 - n.toNat := by
    rw [BitVec.toNat_ofNat]
    omega
  rw [rotateLeft, rotateRight, hcomplement, BitVec.or_comm, Nat.mod_eq_of_lt (a := 32 - n.toNat) (by omega)]
  congr 2
  omega

theorem eq_of_byteOf_eq {v w : Word} (h : ∀ k, k < 4 → byteOf v k = byteOf w k) : v = w := by
  refine BitVec.eq_of_getLsbD_eq fun j hj => ?_
  have hbit := congrArg (fun b => b.getLsbD (j % 8)) (h (j / 8) (by omega))
  simpa [byteOf, Nat.mod_lt, Nat.div_add_mod] using hbit

theorem reverseBytes_reverseBytes (a : Word) : reverseBytes (reverseBytes a) = a := by
  refine eq_of_byteOf_eq fun k hk => ?_
  rw [byteOf_reverseBytes _ hk, byteOf_reverseBytes _ (by omega), Nat.sub_sub_self (by omega)]

/-- Settles O56: the count law by the span of the set bits; ORN is NOT of ANDN with its operands exchanged. -/
theorem bitManipulationLaws : Obligations.BitManipulationLaws := by
  refine ⟨countLaw, by decide, fun a n => rotateLeft_eq_rotateRight a, fun s rd rs1 rs2 a b ha hb => ?_,
    reverseBytes_reverseBytes⟩
  obtain ⟨⟨-, handn⟩, ⟨-, horn⟩, -⟩ := bitManipulationTwoRegisters
  have hnot : ~~~(b &&& ~~~a) = a ||| ~~~b := by rw [BitVec.not_and, BitVec.not_not, BitVec.or_comm]
  exact ⟨b &&& ~~~a, (handn s rd rs2 rs1).1 b a hb ha, hnot ▸ (horn s rd rs1 rs2).1 a b ha hb⟩

end Sys2Proof.Claims
end

section
/-! SUPPORT. Which operands make no NaN. Then the statement on zero and infinite results of 45_float.md. -/

namespace Sys2Proof.Claims

open Sys2Proof.Machine

section
variable {m : RoundMode} {a b : Word}

theorem IsZero.isFinite (h : IsZero a) : IsFinite a := by simp [IsFinite, h.1]

theorem not_sumIsNaN_of_isFinite_right (ha : ¬ IsNaN a) (hb : IsFinite b) : ¬ SumIsNaN a b := by
  rintro (hna | hnb | ⟨-, hib, -⟩)
  · exact ha hna
  · exact hb.not_isNaN hnb
  · exact hb.not_isInf hib

theorem not_sumIsNaN_of_isFinite_left (ha : IsFinite a) (hb : ¬ IsNaN b) : ¬ SumIsNaN a b := by
  rintro (hna | hnb | ⟨hia, -, -⟩)
  · exact ha.not_isNaN hna
  · exact hb hnb
  · exact ha.not_isInf hia

theorem isZeroSum_fadd (ha : IsFinite a) (hb : IsFinite b) (hsum : val a + val b = 0) :
    IsZeroSum m (signOf a) (signOf b) (fadd m a b) := by
  obtain ⟨-, hfinite⟩ := isSum_addResult (op := .fadd) (operands := [a, b]) (m := m) a b
  obtain ⟨-, -, hrounds⟩ := hfinite (not_sumIsNaN_of_isFinite_right ha.not_isNaN hb)
  exact (hrounds ha hb).1 hsum

theorem fmul_of_val_eq_zero (ha : IsFinite a) (hb : IsFinite b) (hprod : val a * val b = 0) :
    fmul m a b = signedZero (signOf a != signOf b) := by
  have hnotNaN : ¬ (IsNaN a ∨ IsNaN b ∨ (IsZero a ∧ IsInf b) ∨ (IsInf a ∧ IsZero b)) := by
    simp [ha.not_isNaN, ha.not_isInf, hb.not_isNaN, hb.not_isInf]
  obtain ⟨-, hrounds⟩ := (isProduct_mulResult (m := m) a b).2 hnotNaN
  exact (hrounds ha hb).1 hprod

theorem fmul_of_isInf_right (ha : IsFinite a) (hz : ¬ IsZero a) (hb : IsInf b) :
    fmul m a b = signedInf (signOf a != signOf b) := by
  have hnotNaN : ¬ (IsNaN a ∨ IsNaN b ∨ (IsZero a ∧ IsInf b) ∨ (IsInf a ∧ IsZero b)) := by
    simp [ha.not_isNaN, ha.not_isInf, hb.not_isNaN, hz]
  rw [fmul, mulResult_of_isInf hnotNaN (.inr hb), orNaN_some]

theorem fdiv_of_isZero_left (ha : IsZero a) (hb : IsFinite b) (hz : ¬ IsZero b) :
    fdiv m a b = signedZero (signOf a != signOf b) := by
  have hnotNaN : ¬ (IsNaN a ∨ IsNaN b ∨ (IsZero a ∧ IsZero b) ∨ (IsInf a ∧ IsInf b)) := by
    simp [ha.not_isNaN, hb.not_isNaN, hz, hb.not_isInf]
  obtain ⟨-, -, -, hrounds⟩ := (isQuotient_divResult (m := m) a b).2 hnotNaN
  exact (hrounds ha.isFinite hb (mt val_eq_zero_iff.mp hz)).1 (val_eq_zero_iff.mpr ha)

/-- An infinity absorbs a finite operand of a sum or a difference. -/
theorem sums_of_isInf (ha : IsInf a) (hb : IsFinite b) :
    fadd m a b = a ∧ fsub m a b = a ∧ fadd m b a = a ∧ fsub m b a = negated a := by
  have hneg : IsInf (negated a) := isInf_negated.mpr ha
  refine ⟨?_, ?_, ?_, ?_⟩
  · rw [fadd, addResult_of_isInf_left (not_sumIsNaN_of_isFinite_right ha.not_isNaN hb) ha, orNaN_some]
  · have hnotNaN := not_sumIsNaN_of_isFinite_right ha.not_isNaN (isFinite_negated.mpr hb)
    exact congrArg (orNaN .fsub [a, b]) (addResult_of_isInf_left hnotNaN ha)
  · rw [fadd, addResult_of_isInf_right (not_sumIsNaN_of_isFinite_left hb ha.not_isNaN) ha, orNaN_some]
  · have hnotNaN := not_sumIsNaN_of_isFinite_left hb hneg.not_isNaN
    exact congrArg (orNaN .fsub [b, a]) (addResult_of_isInf_right hnotNaN hneg)

end

/-- Settles O47: the exact operations' answers on zeros and infinities, of which none is a NaN here. -/
theorem zerosAndInfinities : Obligations.ZerosAndInfinities := by
  refine fun m a b => ⟨isZeroSum_fadd, fmul_of_val_eq_zero, fmul_of_isInf_right, fun ha hz hb => ?_, fun ha hb => ?_,
    fdiv_of_isZero_left, fun ha hb => ?_, sums_of_isInf, fun ha hs => ?_, fun ha => ?_⟩
  · rw [fdiv, divResult_of_isZero_right hb ha.not_isNaN hz, orNaN_some]
  · rw [fdiv, divResult_of_isInf_right ha hb, orNaN_some]
  · rw [fdiv, divResult_of_isInf_left ha hb.not_isNaN hb.not_isInf, orNaN_some]
  · rw [fsqrt, sqrtResult_of_isInf ha hs, orNaN_some]
  · rw [fsqrt, sqrtResult_of_isZero ha, orNaN_some]

end Sys2Proof.Claims
end

section
/-! SUPPORT. Signs over magnitudes, comparisons of patterns that are no NaN, and integers that binary32 holds exactly.
Then the statement on the laws of 45_float.md. -/

namespace Sys2Proof.Claims

open Sys2Proof.Machine

/-! ## Sign injection and classification -/

section
variable (a : Word)

theorem withSign_eq_signMag (sign : Bool) : withSign sign a = signMag sign (magOf a) := by
  have hlow : a.extractLsb' 0 31 = BitVec.ofNat 31 (magOf a) := by
    apply BitVec.eq_of_toNat_eq
    rw [BitVec.extractLsb'_toNat, BitVec.toNat_ofNat, magOf, Nat.shiftRight_zero, Nat.mod_mod]
  rw [withSign_eq, hlow, signMag]

theorem signMag_and (sign : Bool) (k : Nat) : signMag sign k &&& 0x7FFFFFFF = signMag false k := by
  have hmask : (0x7FFFFFFF : Word) = 0#1 ++ BitVec.allOnes 31 := rfl
  rw [hmask, signMag, BitVec.and_append, BitVec.and_zero, BitVec.and_allOnes]
  rfl

theorem signMag_or (sign : Bool) (k : Nat) : signMag sign k ||| 0x80000000 = signMag true k := by
  have hmask : (0x80000000 : Word) = BitVec.allOnes 1 ++ 0#31 := rfl
  rw [hmask, signMag, BitVec.or_append, BitVec.or_zero, BitVec.or_allOnes]
  rfl

theorem fsgnjx_self : fsgnjx a a = a &&& 0x7FFFFFFF := by
  conv_rhs => rw [← signMag_signOf_magOf a, signMag_and]
  rw [fsgnjx, withSign_eq_signMag, bne_self_eq_false]

theorem fsgnjx_negated : fsgnjx a (negated a) = a ||| 0x80000000 := by
  conv_rhs => rw [← signMag_signOf_magOf a, signMag_or]
  rw [fsgnjx, withSign_eq_signMag, fSign_eq, fSign_eq, signOf_negated]
  simp

theorem fsgnjn_self : fsgnjn a a = a ^^^ 0x80000000 := by
  rw [fsgnjn, withSign_eq_signMag, fSign_eq, ← negated_eq_signMag, negated]

theorem fEq_self_eq_false_iff : fEq a a = false ↔ IsNaN a := by
  rw [← Bool.not_eq_true, fEq_iff]
  simp

theorem classBit_lt : classBit a < 10 := by
  rw [classBit]
  split_ifs <;> decide

end

/-! ## Comparisons, minimum and maximum -/

section
variable {a b : Word}

theorem isNaN_eq_false (h : ¬ IsNaN a) : isNaN a = false := Bool.eq_false_iff.mpr (mt isNaN_iff.mp h)

theorem fLt_of_not_isNaN (ha : ¬ IsNaN a) (hb : ¬ IsNaN b) : fLt a b = decide (scaled a < scaled b) := by
  simp [fLt, isNaN_eq_false ha, isNaN_eq_false hb]

theorem fEq_of_not_isNaN (ha : ¬ IsNaN a) (hb : ¬ IsNaN b) : fEq a b = decide (scaled a = scaled b) := by
  simp [fEq, isNaN_eq_false ha, isNaN_eq_false hb]

theorem fLe_of_not_isNaN (ha : ¬ IsNaN a) (hb : ¬ IsNaN b) : fLe a b = decide (scaled a ≤ scaled b) := by
  simp [fLe, isNaN_eq_false ha, isNaN_eq_false hb]

theorem fLe_eq_or (ha : ¬ IsNaN a) (hb : ¬ IsNaN b) : fLe a b = (fLt a b || fEq a b) := by
  rw [fLe_of_not_isNaN ha hb, fLt_of_not_isNaN ha hb, fEq_of_not_isNaN ha hb, ← Bool.decide_or,
    decide_eq_decide]
  exact le_iff_lt_or_eq

theorem compare_trichotomy (ha : ¬ IsNaN a) (hb : ¬ IsNaN b) :
    (fLt a b = true ∧ fEq a b = false ∧ fLt b a = false) ∨ (fLt a b = false ∧ fEq a b = true ∧ fLt b a = false) ∨
      (fLt a b = false ∧ fEq a b = false ∧ fLt b a = true) := by
  rw [fLt_of_not_isNaN ha hb, fEq_of_not_isNaN ha hb, fLt_of_not_isNaN hb ha]
  simp only [decide_eq_true_eq, decide_eq_false_iff_not]
  omega

theorem not_isNaN_signedZero (sign : Bool) : ¬ IsNaN (signedZero sign) := by
  rw [signedZero_eq, isNaN_iff_magOf, magOf_signMag _ (by decide)]
  decide

/-- Of FMIN.S's and FMAX.S's choices, only the one for two NaNs can be a NaN. -/
theorem not_isNaN_of_choice {z w : Word} {opposite : Bool} {p : Prop} [Decidable p] (h : ¬ (IsNaN a ∧ IsNaN b))
    (hz : ¬ IsNaN z) :
    ¬ IsNaN (if isNaN a && isNaN b then w
      else if isNaN a then b
      else if isNaN b then a
      else if opposite then z
      else if p then a
      else b) := by
  by_cases ha : IsNaN a
  · have hb : ¬ IsNaN b := fun hb => h ⟨ha, hb⟩
    simp [ha, hb]
  by_cases hb : IsNaN b
  · simp [ha, hb]
  · simp only [isNaN_iff, Bool.and_eq_true, ha, hb, and_self, if_false]
    split_ifs
    · exact hz
    · exact ha
    · exact hb

end

/-! ## Integers that are binary32 values -/

/-- A magnitude of at most 2^24 has its leading bit at bit 23 once it is shifted there, or is 2^24. -/
theorem exists_shift {k : ℕ} (hpos : 0 < k) (hk : k ≤ 2 ^ 24) : ∃ j ≤ 23, 2 ^ 23 ≤ k * 2 ^ j ∧ k * 2 ^ j ≤ 2 ^ 24 := by
  obtain rfl | hlt := Nat.eq_or_lt_of_le hk
  · exact ⟨0, by decide, by decide, by decide⟩
  have hlog : k.log2 ≤ 23 := Nat.le_of_lt_succ ((Nat.log2_lt hpos.ne').mpr hlt)
  have hsum : k.log2 + (23 - k.log2) = 23 := Nat.add_sub_cancel' hlog
  refine ⟨23 - k.log2, Nat.sub_le .., ?_, ?_⟩
  · calc 2 ^ 23 = 2 ^ k.log2 * 2 ^ (23 - k.log2) := by rw [← pow_add, hsum]
      _ ≤ k * 2 ^ (23 - k.log2) := Nat.mul_le_mul_right _ (Nat.log2_self_le hpos.ne')
  · calc k * 2 ^ (23 - k.log2) ≤ 2 ^ (k.log2 + 1) * 2 ^ (23 - k.log2) := Nat.mul_le_mul_right _ Nat.lt_log2_self.le
      _ = 2 ^ 24 := by rw [← pow_add, Nat.add_right_comm, hsum]

theorem exists_unitsAt_eq {k : ℕ} (hpos : 0 < k) (hk : k ≤ 2 ^ 24) : ∃ mag < infMag, unitsAt mag = k * 2 ^ 149 := by
  obtain ⟨j, hj, hlo, hhi⟩ := exists_shift hpos hk
  refine ⟨(149 - j) * 2 ^ 23 + k * 2 ^ j, ?_, ?_⟩
  · rw [infMag]
    omega
  · rw [unitsAt_spacing hhi (.inr hlo), mul_assoc, ← pow_add, Nat.add_sub_cancel' (by omega)]

theorem exists_val_eq {n : ℤ} (hne : n ≠ 0) (hn : |n| ≤ 2 ^ 24) : ∃ v, IsFinite v ∧ val v = n := by
  have hle : n.natAbs ≤ 2 ^ 24 := by
    rw [Int.abs_eq_natAbs] at hn
    exact_mod_cast hn
  obtain ⟨mag, hlt, hunits⟩ := exists_unitsAt_eq (Int.natAbs_pos.mpr hne) hle
  have hmag : mag < 2 ^ 31 := hlt.trans (by decide)
  refine ⟨signMag (decide (n < 0)) mag, ?_, ?_⟩
  · rwa [isFinite_iff_magOf, magOf_signMag _ hmag]
  · have hscaled : scaled (signMag (decide (n < 0)) mag) = n * 2 ^ 149 := by
      rw [scaled_eq, magOf_signMag _ hmag, signOf_signMag _ hmag, hunits]
      push_cast
      by_cases hneg : n < 0
      · rw [if_pos (decide_eq_true hneg), abs_of_neg hneg]
        ring
      · rw [if_neg (mt of_decide_eq_true hneg), abs_of_nonneg (not_lt.mp hneg)]
    rw [val_eq_scaled, hscaled, Int.cast_mul, mul_assoc]
    norm_num

/-- An integer of magnitude at most 2^24 is a binary32 value, so the nearest value is the integer itself (R300). -/
theorem ofInteger_exact {n : ℤ} (hn : |n| ≤ 2 ^ 24) : IsFinite (ofInteger n) ∧ val (ofInteger n) = n := by
  obtain ⟨hzero, hrounds⟩ := ofInteger_spec n
  by_cases hne : n = 0
  · subst hne
    rw [hzero rfl]
    have hz : IsZero 0#32 := ⟨rfl, rfl⟩
    exact ⟨hz.isFinite, by rw [Int.cast_zero, val_eq_zero_iff.mpr hz]⟩
  obtain ⟨-, -, hnearest⟩ := hrounds hne
  have habs : |(n : ℝ)| ≤ 2 ^ 24 := mod_cast hn
  obtain ⟨hfinite, hmin, -⟩ := hnearest (habs.trans_lt (by norm_num))
  obtain ⟨v, hv, hval⟩ := exists_val_eq hne hn
  refine ⟨hfinite, ?_⟩
  have hdist := hmin v hv
  rw [hval, Rat.cast_intCast, sub_self, abs_zero] at hdist
  have heq : (n : ℝ) = val (ofInteger n) := sub_eq_zero.mp (abs_nonpos_iff.mp hdist)
  exact_mod_cast heq.symm

/-- The nearest integer to an integer is that integer, whatever the tie rule. -/
theorem rint_of_val_eq {a : Word} {n : ℤ} (tie : Config.TieBreak) (h : val a = n) : rint tie a = n := by
  have hnear := (isRint_rint tie a).1
  rw [h] at hnear
  have habs : |n - rint tie a| < 1 := by
    have : ((|n - rint tie a| : ℤ) : ℚ) < 1 := by
      push_cast
      linarith
    exact_mod_cast this
  rw [Int.abs_lt_one_iff] at habs
  omega

theorem clamp_toInt (n : Word) : clamp (-2 ^ 31) (2 ^ 31 - 1) n.toInt = n.toInt := by
  have hlo : -2 ^ 31 ≤ n.toInt := BitVec.le_toInt n
  have hhi : n.toInt < 2 ^ 31 := BitVec.toInt_lt
  rw [clamp, max_eq_right hlo, min_eq_right (Int.le_sub_one_of_lt hhi)]

theorem fcvtToW_fcvtOfW {n : Word} (hn : |n.toInt| ≤ 2 ^ 24) (p : Config.Params) : fcvtToW p (fcvtOfW n) = n := by
  obtain ⟨hfinite, hval⟩ := ofInteger_exact hn
  rw [fcvtToW, fcvtOfW, if_neg (mt isNaN_iff.mp hfinite.not_isNaN), rint_of_val_eq _ hval, clamp_toInt,
    BitVec.ofInt_toInt]

/-! ## Moves -/

theorem hasF_putF (s : State) (rd : RegIdx) (v pc : Word) : HasF { s with f := putF s rd v, pc := pc } rd v := by
  simp [HasF, putF]

theorem hasX_putX (s : State) (rd : RegIdx) (v pc : Word) :
    HasX { s with x := putX s rd v, pc := pc } rd (if rd = 0#5 then 0#32 else v) := by
  by_cases hrd : rd = 0#5
  · exact .inl ⟨hrd, if_pos hrd⟩
  · exact .inr ⟨hrd, by simp [putX, hrd]⟩

/-- Settles O53: each law by the facts on signs, on the model's integers and on exact conversions above. -/
theorem floatLaws : Obligations.FloatLaws := by
  refine ⟨fun x => ⟨fsgnjx_self x, fsgnjx_negated x, fsgnjn_self x, fEq_self_eq_false_iff x, _, classBit_lt x, rfl⟩,
    fun a b ha hb => ⟨compare_trichotomy ha hb, fLe_eq_or ha hb⟩, fun a b h => ⟨?_, ?_⟩, fun n hn => ?_,
    fun s rd rs1 q k j v hv => ?_⟩
  · exact not_isNaN_of_choice h (not_isNaN_signedZero _)
  · exact not_isNaN_of_choice h (not_isNaN_signedZero _)
  · obtain ⟨hfinite, hval⟩ := ofInteger_exact hn
    exact ⟨hfinite, hval, fcvtToW_fcvtOfW hn⟩
  · exact ⟨_, _, goesF_of_opFX rfl hv, goesX_of_opXF rfl (hasF_putF s rd v _), hasX_putX _ q v _⟩

end Sys2Proof.Claims
end
